-- ==== Sys2Proof/Word.lean ====
section
/-! DEFINITION. The two widths of the machine (R4, R5): the 8-bit byte of the buffers, of the checksum and of a command's
operand, and the 16-bit word of the register port. Everything in PCODEC is unsigned (R94). -/

namespace Sys2Proof

/-- R5: "A *byte* is 8 bits. Bit 7 is the most significant bit, bit 0 the least significant." -/
abbrev Byte := BitVec 8

/-- R5: "A *register* is 16 bits, bit 15 most significant." A command word is one such value (R46). -/
abbrev Word := BitVec 16

/-- R5, R44: the 4-bit number of a register on the port (`req_addr`). -/
abbrev RegNum := BitVec 4

end Sys2Proof
end

