-- ==== Sys2Proof/Syntax.lean ====
section
/-! DEFINITION. The commands of PCODEC, the "instructions" of the spec (R1): one constructor per row of
spec/opcode_table.json, in the table's order (R47), and the three fields of a command word (R46). -/

namespace Sys2Proof

/-- The ten commands (R47). A `Byte` argument is the word's `imm8` (R49); a `Bool` argument is one modifier bit (R48). The
types hold exactly the operands R48 and R49 make legal, so every term of this type is a legal command: what can be
ill-formed is a word's `Fields`, checked in WellFormed.lean. -/
inductive Instr where
  /-- R90: do nothing. -/
  | nop
  /-- R61: frame the payload in IBUF; `opcode` is the frame opcode, `p` asks for the byte 0x12 in front. -/
  | frame (opcode : Byte) (p : Bool)
  /-- R70: start a checksum. -/
  | crci
  /-- R71: fold the byte `b` into the checksum. -/
  | crcb (b : Byte)
  /-- R72: checksum of the whole of IBUF. -/
  | crcbuf
  /-- R76: mirror the byte `b`. -/
  | revb (b : Byte)
  /-- R78: mirror every byte of IBUF; `o` writes the result in place. -/
  | revbuf (o : Bool)
  /-- R81: flip the bitmap in IBUF, horizontally (`h`), vertically (`v`); `o` writes the result in place. -/
  | flip (h v o : Bool)
  /-- R91: append the byte `b` to IBUF. -/
  | push (b : Byte)
  /-- R92: empty IBUF (`i`), empty OBUF (`o`), clear the sticky flags (`e`). -/
  | clr (i o e : Bool)
  deriving DecidableEq, Repr

/-- The command's name in spec/opcode_table.json. -/
def Instr.mnemonic : Instr → String
  | .nop => "NOP"
  | .frame _ _ => "FRAME"
  | .crci => "CRCI"
  | .crcb _ => "CRCB"
  | .crcbuf => "CRCBUF"
  | .revb _ => "REVB"
  | .revbuf _ => "REVBUF"
  | .flip _ _ _ => "FLIP"
  | .push _ => "PUSH"
  | .clr _ _ _ => "CLR"

/-- R46, format `C`: the three fields of a command word. -/
structure Fields where
  /-- bits 15:8 -/
  imm8 : Byte
  /-- bits 7:4 -/
  op   : BitVec 4
  /-- bits 3:0 -/
  mod  : BitVec 4
  deriving DecidableEq, Repr

end Sys2Proof
end

