-- ==== Sys2Proof/WellFormed.lean ====
section
/-! DEFINITION. When a command word is legal: the three checks of R50 on its fields, written from R48 and R50 and apart
from the decoder of R51 (Decode.lean), so that "the decoder accepts exactly the legal words" is a statement. -/

namespace Sys2Proof

/-- R50, first check: "`op` is 0xA, 0xB, 0xC, 0xD, 0xE or 0xF". -/
def Fields.opReserved (f : Fields) : Bool := 0xA ≤ f.op.toNat

/-- R50, second check: the commands "that do not use `imm8`". -/
def Fields.immUnused (f : Fields) : Bool := f.op.toNat ∈ [0x0, 0x2, 0x4, 0x6, 0x7, 0x9]

/-- R48: the modifier bits listed for a command, as a mask. -/
def Fields.listedMods (f : Fields) : BitVec 4 :=
  match f.op.toNat with
  | 0x1 => 0b0001#4
  | 0x6 => 0b1000#4
  | 0x7 => 0b1011#4
  | 0x9 => 0b0111#4
  | _ => 0b0000#4

/-- R50, third check: "a `mod` bit that rule R48 does not list for the command is 1". -/
def Fields.unlistedModSet (f : Fields) : Bool := f.mod &&& ~~~f.listedMods ≠ 0

/-- R50: a word is illegal when any of the three checks finds something, and legal otherwise. -/
def Fields.wellFormed (f : Fields) : Bool :=
  !f.opReserved && !(f.immUnused && f.imm8 ≠ 0) && !f.unlistedModSet

end Sys2Proof
end

