-- ==== Sys2Proof/Decode.lean ====
section
/-! DEFINITION. The decoder of R51, total on all 65536 words, refusing by name; then the encoder, written from the word
formulas of R46 and R54; and the op map of R47 as a list of rows. -/

namespace Sys2Proof

/-- Why a word is no command (R50). Every one of them is `IllegalCommand` to the host (R45); the names say which of
R50's three conditions the decoder met first. -/
inductive DecodeReject where
  /-- `op` is 0xA to 0xF. -/
  | reservedOp (op : BitVec 4)
  /-- `imm8` is not 0 for a command that does not use it. -/
  | unusedImm8 (op : BitVec 4) (imm8 : Byte)
  /-- a modifier bit R48 does not list is 1. -/
  | unlistedMod (op : BitVec 4) (mod : BitVec 4)
  deriving DecidableEq, Repr

/-- R51: `imm8 <- w[15:8]; op <- w[7:4]; mod <- w[3:0]`. -/
def Fields.ofWord (w : Word) : Fields :=
  { imm8 := w.extractLsb' 8 8, op := w.extractLsb' 4 4, mod := w.extractLsb' 0 4 }

/-- R46: `w = imm8 * 256 + op * 16 + mod`. -/
def Fields.toWord (f : Fields) : Word := BitVec.ofNat 16 (f.imm8.toNat * 256 + f.op.toNat * 16 + f.mod.toNat)

/-- The condition `imm8 = 0` of R51. -/
def needNoImm8 (f : Fields) (d : Except DecodeReject Instr) : Except DecodeReject Instr :=
  if f.imm8 = 0#8 then d else .error (.unusedImm8 f.op f.imm8)

/-- The condition of R51 on `mod`: every bit outside `listed` is 0. -/
def needOnlyMods (f : Fields) (listed : BitVec 4) (d : Except DecodeReject Instr) : Except DecodeReject Instr :=
  if f.mod &&& ~~~listed = 0#4 then d else .error (.unlistedMod f.op f.mod)

/-- R51 on the three fields. -/
def decodeFields (f : Fields) : Except DecodeReject Instr :=
  match f.op.toNat with
  | 0x0 => needNoImm8 f (needOnlyMods f 0b0000#4 (.ok .nop))
  | 0x1 => needOnlyMods f 0b0001#4 (.ok (.frame f.imm8 (f.mod.getLsbD 0)))
  | 0x2 => needNoImm8 f (needOnlyMods f 0b0000#4 (.ok .crci))
  | 0x3 => needOnlyMods f 0b0000#4 (.ok (.crcb f.imm8))
  | 0x4 => needNoImm8 f (needOnlyMods f 0b0000#4 (.ok .crcbuf))
  | 0x5 => needOnlyMods f 0b0000#4 (.ok (.revb f.imm8))
  | 0x6 => needNoImm8 f (needOnlyMods f 0b1000#4 (.ok (.revbuf (f.mod.getLsbD 3))))
  | 0x7 => needNoImm8 f (needOnlyMods f 0b1011#4 (.ok (.flip (f.mod.getLsbD 0) (f.mod.getLsbD 1) (f.mod.getLsbD 3))))
  | 0x8 => needOnlyMods f 0b0000#4 (.ok (.push f.imm8))
  | 0x9 => needNoImm8 f (needOnlyMods f 0b0111#4 (.ok (.clr (f.mod.getLsbD 0) (f.mod.getLsbD 1) (f.mod.getLsbD 2))))
  | _ => .error (.reservedOp f.op)

/-- R51: the decoder, total on all 65536 words. -/
def decode (w : Word) : Except DecodeReject Instr := decodeFields (Fields.ofWord w)

/-- The four modifier bits as the field `mod`, bit 3 first (R46). -/
def modBits (b3 b2 b1 b0 : Bool) : BitVec 4 :=
  BitVec.ofBool b3 ++ BitVec.ofBool b2 ++ BitVec.ofBool b1 ++ BitVec.ofBool b0

/-- R47 and R48: the fields of a command's word. -/
def encodeFields : Instr → Fields
  | .nop => { imm8 := 0, op := 0x0, mod := 0 }
  | .frame opcode p => { imm8 := opcode, op := 0x1, mod := modBits false false false p }
  | .crci => { imm8 := 0, op := 0x2, mod := 0 }
  | .crcb b => { imm8 := b, op := 0x3, mod := 0 }
  | .crcbuf => { imm8 := 0, op := 0x4, mod := 0 }
  | .revb b => { imm8 := b, op := 0x5, mod := 0 }
  | .revbuf o => { imm8 := 0, op := 0x6, mod := modBits o false false false }
  | .flip h v o => { imm8 := 0, op := 0x7, mod := modBits o false v h }
  | .push b => { imm8 := b, op := 0x8, mod := 0 }
  | .clr i o e => { imm8 := 0, op := 0x9, mod := modBits false e o i }

/-- The word the host writes to `CMD` for a command (R54). -/
def encode (i : Instr) : Word := (encodeFields i).toWord

/-- One row of the op map of R47. -/
structure OpRow where
  mnemonic : String
  mask     : Word
  pattern  : Word
  deriving DecidableEq, Repr

/-- R47: "a word `w` is the command of a row exactly when `(w and mask) = match`". -/
def OpRow.matches (r : OpRow) (w : Word) : Bool := w &&& r.mask = r.pattern

/-- R47: the op map, row by row as the spec prints it. -/
def opMap : List OpRow :=
  [⟨"NOP", 0xFFFF#16, 0x0000#16⟩, ⟨"FRAME", 0x00FE#16, 0x0010#16⟩, ⟨"CRCI", 0xFFFF#16, 0x0020#16⟩,
   ⟨"CRCB", 0x00FF#16, 0x0030#16⟩, ⟨"CRCBUF", 0xFFFF#16, 0x0040#16⟩] ++
  [⟨"REVB", 0x00FF#16, 0x0050#16⟩, ⟨"REVBUF", 0xFFF7#16, 0x0060#16⟩, ⟨"FLIP", 0xFFF4#16, 0x0070#16⟩,
   ⟨"PUSH", 0x00FF#16, 0x0080#16⟩, ⟨"CLR", 0xFFF8#16, 0x0090#16⟩]

/-- The command word whose `nbits` low bits are those of `w`, the bits above being 0. A command is one 16-bit word (R53),
moved whole over the port (R31), so the table's bit numbering is the word's own. -/
def tableWord (nbits w : Nat) : Word := BitVec.ofNat 16 (w % 2 ^ nbits)

/-- The instruction the decoder reads from a row's bits of spec/opcode_table.json; none where it refuses. -/
def decodeTableWord (nbits w : Nat) : Option Instr :=
  match decode (tableWord nbits w) with
  | .ok i => some i
  | .error _ => none

end Sys2Proof
end

