-- ==== Sys2Proof/Machine/Bits.lean ====
section
/-! DEFINITION. The mirror of one byte (R75) and of a sequence of bytes (R77). -/

namespace Sys2Proof.Machine

/-- R75: the byte `r` with `r[i] = b[7-i]`; written as the wiring of R83, `r[7:0] = b[0], b[1], ..., b[7]`. -/
def reverseBits (b : Byte) : Byte :=
  BitVec.ofBool (b.getLsbD 0) ++ BitVec.ofBool (b.getLsbD 1) ++ BitVec.ofBool (b.getLsbD 2) ++
    BitVec.ofBool (b.getLsbD 3) ++ BitVec.ofBool (b.getLsbD 4) ++ BitVec.ofBool (b.getLsbD 5) ++
    BitVec.ofBool (b.getLsbD 6) ++ BitVec.ofBool (b.getLsbD 7)

/-- R77: "every byte mirrored where it stands, the order of the bytes unchanged". -/
def revbuf (s : List Byte) : List Byte := s.map reverseBits

end Sys2Proof.Machine
end

