-- ==== Sys2Proof/Config.lean ====
section
/-! DEFINITION. The parameters of one PCODEC (R4): what the spec marks OPEN. They are not architectural state (R8, R10); a
machine carries its own in the field `cfg` of State, which no step changes, so that a statement about every state is a
statement about every choice of parameters. -/

namespace Sys2Proof

/-- R4: the lower bound of `BUF_SIZE`, "the longest frame the framer can emit". -/
abbrev minBufSize : Nat := 264

/-- R4: the two OPEN parameters. `above` is how far `BUF_SIZE`, the number of cells of IBUF and of OBUF, lies above its lower
bound 264: its type makes `BUF_SIZE` run over 264 to 65535, all of R4's range and nothing else. `crcTable` is
`CRC_TABLE`, the 256 bytes of the lookup ROM `T` (R18, R66). -/
structure Config where
  above    : Fin 65272
  crcTable : Vector Byte 256
  deriving DecidableEq, Repr

/-- R4: `BUF_SIZE`. -/
def Config.bufSize (c : Config) : Nat := minBufSize + c.above.val

/-- R68: the two entries the source pins: `T[0x00] = 0x00` and `T[0x10] = 0x70`. "Any `CRC_TABLE` a model is given must
satisfy these two equations." -/
abbrev Config.Admissible (c : Config) : Prop :=
  c.crcTable[0x00] = 0x00#8 ∧ c.crcTable[0x10] = 0x70#8

/-- R4, decision D6: `BUF_SIZE` is OPEN and the spec gives no value. This is how far the capacity of the machine of
`State.reset` lies above 264. It has no body: nothing can be proved of it beyond its range (log entry 3). -/
opaque Config.someAbove : Fin 65272

end Sys2Proof
end

