-- ==== Sys2Proof/Machine/Crc.lean ====
section
/-! DEFINITION. The CRC-8: the table `T` and the function `checksum` (R65 to R67). -/

namespace Sys2Proof.Machine

/-- R4: `CRC_INIT`, fixed. -/
def crcInit : Byte := 0x00#8

/-- `MemRead(T + i, 1)` (R6, R18): the entry of the lookup table at index `i`, which is always in range (R94). -/
def tableAt (c : Config) (i : Byte) : Byte := c.crcTable[i.toNat]

/-- R65: one byte folded in, `c_(k+1) = T[ c_k xor s[k] ]`. -/
def crcStep (c : Config) (crc b : Byte) : Byte := tableAt c (crc ^^^ b)

/-- R65: the bytes folded in increasing index order from `CRC_INIT`; no final XOR. -/
def checksum (c : Config) (s : List Byte) : Byte := s.foldl (crcStep c) crcInit

/-- R67: one of the eight rounds of the computation of `T07[i]`. -/
def t07Round (c : Byte) : Byte := if c.getLsbD 7 then (c <<< 1) ^^^ 0x07#8 else c <<< 1

/-- R67: `T07[i]`, "repeat 8 times". -/
def t07Entry (i : Byte) : Byte :=
  t07Round (t07Round (t07Round (t07Round (t07Round (t07Round (t07Round (t07Round i)))))))

/-- R67: the default table `T07`, `[from general knowledge, not in source]` by the spec's own mark (log entry 4). -/
def t07 : Vector Byte 256 := ⟨⟨(List.range 256).map fun i => t07Entry (BitVec.ofNat 8 i)⟩, by simp⟩

end Sys2Proof.Machine
end

