-- ==== Sys2Proof/Machine/State.lean ====
section
/-! DEFINITION. The state of the machine as plain data: the architectural state of R10, the parameters this PCODEC was
built with, and the model's own view of the host (R7), which issues register transactions and collects their answers. -/

namespace Sys2Proof.Machine

/-- Why the machine stops with a fault: never. R107: "A model therefore needs no "stuck" state and no "undefined" outcome;
its only non-success outcomes are the four errors of rule R100", and those are next states (`CmdError`;
log entry 10). -/
inductive Fault where
  deriving DecidableEq, Repr

/-- Why an instruction is refused. -/
inductive Refusal where
  /-- Raised only by an arm of `exec` whose instruction has no meaning yet (safe: the machine stops). No arm is left so. -/
  | notModelled (mnemonic : String)
  deriving DecidableEq, Repr

/-- The four errors of R100, in the order of their codes 1 to 4. Raising one is a next state (R103). -/
inductive CmdError where
  /-- code 1: the word matches no command (R50). -/
  | illegalCommand
  /-- code 2: FRAME with `ILEN > 255` (R61). -/
  | payloadTooLarge
  /-- code 3: FLIP with `h` or `v` and a geometry that does not fit IBUF (R81). -/
  | badGeometry
  /-- code 4: PUSH with `ILEN = BUF_SIZE` (R91). -/
  | bufferFull
  deriving DecidableEq, Repr

/-- The registers of R11 by name; `reserved` stands for the numbers 11 to 15. -/
inductive PortReg where
  | cmd | status | crc | res | width | height | ilen | olen | ptr | idata | odata | reserved
  deriving DecidableEq, Repr

/-- What the host can do to PCODEC: the two register transactions of R44 and the reset of R115, one at a time. -/
inductive HostEvent where
  /-- a read of register `a` (R33) -/
  | read (a : RegNum)
  /-- a write of `w` to register `a` (R34) -/
  | write (a : RegNum) (w : Word)
  /-- R115: "reset is one more input event, `reset`, which may occur between any two transactions" -/
  | reset
  deriving DecidableEq, Repr

/-- A byte memory with a valid length (R16), held as its content: the byte at index `k` is the element at `k`, the length
is `ILEN` or `OLEN` (R10: "A model may hold each buffer as a list of bytes"), and cells at or above the length do not
exist, since their values "are not architectural state" (R19; log entry 5). -/
abbrev Memory := List Byte

/-- The state. The first nine fields are R10's table, all of it and nothing else; `cfg`, `pending` and `responses` are the
model's own (log entries 1 and 2). -/
structure State where
  /-- `CRC` (R10, R12) -/
  crc       : Byte
  /-- `RES` (R10, R14) -/
  res       : Byte
  /-- `WIDTH` (R10, R14) -/
  width     : Word
  /-- `HEIGHT` (R10, R14) -/
  height    : Word
  /-- `PTR` (R10, R14) -/
  ptr       : Word
  /-- `STATUS.LASTERR` (R10, R15) -/
  lastErr   : BitVec 4
  /-- `STATUS.STICKY` (R10): bit `k-1` is the flag of error code `k`, bit `7+k` of `STATUS` (R15) -/
  sticky    : BitVec 4
  /-- `IBUF`; its length is `ILEN` (R10, R17) -/
  ibuf      : Memory
  /-- `OBUF`; its length is `OLEN` (R10, R17) -/
  obuf      : Memory
  /-- MODEL'S OWN: the parameters of this PCODEC (R4, R8); no step changes them -/
  cfg       : Config
  /-- MODEL'S OWN: the events the host will present, the next one first (R7, R39) -/
  pending   : List HostEvent
  /-- MODEL'S OWN: `rsp_rdata` of every completed transaction, oldest first (R44) -/
  responses : List Word
  deriving DecidableEq, Repr

/-- R21: the machine with parameters `c` right after reset, the host having issued nothing. -/
def State.resetWith (c : Config) : State :=
  { crc := 0x00, res := 0x00, width := 0x0000, height := 0x0000, ptr := 0x0000, lastErr := 0, sticky := 0,
    ibuf := [], obuf := [], cfg := c, pending := [], responses := [] }

/-- The parameters of `State.reset`: `BUF_SIZE` is any value of its range (R4, OPEN; log entry 3), the table is the spec's
default (R66, R67; log entry 4). -/
def initialConfig : Config :=
  { above := Config.someAbove, crcTable := t07 }

/-- R21, R115: the machine right after reset. -/
def State.reset : State := State.resetWith initialConfig

end Sys2Proof.Machine
end

