-- ==== Sys2Proof/Machine/Flags.lean ====
section
/-! DEFINITION. The register `STATUS` and its two fields (R15): error codes, sticky flags, the word the host reads. PCODEC
has no other flag: no carry, zero, sign or overflow (R15). -/

namespace Sys2Proof.Machine

/-- R100: the numeric code of an error. -/
def CmdError.code : CmdError → Nat
  | .illegalCommand => 1
  | .payloadTooLarge => 2
  | .badGeometry => 3
  | .bufferFull => 4

/-- `LASTERR` after an error: its code (R103). -/
def CmdError.lastErr (e : CmdError) : BitVec 4 := BitVec.ofNat 4 e.code

/-- R15: "The sticky flag of error code `k` (1 <= k <= 4) is bit `7 + k`" of `STATUS`: bit `k - 1` of STICKY, which is
`STATUS[11:8]`. -/
def CmdError.stickyFlag (e : CmdError) : BitVec 4 := 1#4 <<< (e.code - 1)

/-- R15: the 16 bits of `STATUS`: bits 15:12 read 0, STICKY, bits 7:4 read 0, LASTERR. -/
def statusWord (sticky lastErr : BitVec 4) : Word := 0#4 ++ sticky ++ 0#4 ++ lastErr

end Sys2Proof.Machine
end

