-- ==== Sys2Proof/Machine/Ops.lean ====
section
/-! DEFINITION. The named operations over the state: the two buffers, one setter per register, the end of a command in
success and in error, the register port, reset, and the completion of a transaction. -/

namespace Sys2Proof.Machine

/-! ### The buffers (R16, R93) -/

/-- `MemRead(A + k, 1)` (R6): the byte at index `k`, none at or above the valid length (R19). -/
def Memory.read (m : Memory) (k : Nat) : Option Byte := m[k]?

/-- R91: `MemWrite(A + length, 1, b)` and length `+ 1`. -/
def Memory.append (m : Memory) (b : Byte) : Memory := m ++ [b]

/-- R61, R78, R81: `MemWrite(A + k, 1, bs[k])` for every `k < len(bs)`, then the length becomes `len(bs)`: the whole
content is the result, whatever was there (R19). -/
def Memory.replaceAll (_old : Memory) (bs : List Byte) : Memory := bs

/-- R78, R81 in overwrite mode: `MemWrite(A + k, 1, bs[k])` for every `k < len(bs)`; the length is not written. -/
def Memory.writeFromZero (m : Memory) (bs : List Byte) : Memory := bs ++ m.drop bs.length

/-- R91: the condition `length = BUF_SIZE`, the two numbers compared less their lower bound 264. -/
def Memory.full (m : Memory) (c : Config) : Bool :=
  decide (minBufSize ≤ m.length) && decide (m.length - minBufSize = c.above.val)

/-- R92: the length becomes 0. -/
def Memory.empty (_old : Memory) : Memory := []

/-- The buffer written out as (address, byte) pairs. -/
def Memory.cells (m : Memory) : List Host.Cell := m.zipIdx.map fun p => (p.2, p.1)

/-- The canonical form of a buffer of capacity `cap`: written out, its addresses are 0, 1, 2, ... up to its length, strictly
rising with no gap and each once (an unlisted address holds no byte, so no entry can equal it), and all of them are cells
of the memory, `length <= cap` (R16, R17). -/
def Memory.wf (cap : Nat) (m : Memory) : Bool :=
  (m.cells.map Prod.fst == List.range m.length) && decide (m.length ≤ cap)

/-! ### Registers: one setter each -/

def State.setCrc (s : State) (v : Byte) : State := { s with crc := v }
def State.setRes (s : State) (v : Byte) : State := { s with res := v }
def State.setWidth (s : State) (v : Word) : State := { s with width := v }
def State.setHeight (s : State) (v : Word) : State := { s with height := v }
def State.setPtr (s : State) (v : Word) : State := { s with ptr := v }
def State.setLastErr (s : State) (v : BitVec 4) : State := { s with lastErr := v }
def State.setSticky (s : State) (v : BitVec 4) : State := { s with sticky := v }
def State.setIbuf (s : State) (m : Memory) : State := { s with ibuf := m }
def State.setObuf (s : State) (m : Memory) : State := { s with obuf := m }

/-! ### How a command ends (R45, R103) -/

/-- R45: "If the command's rule completes without `raise`, `STATUS.LASTERR <- 0`". -/
def State.succeed (s : State) : State := s.setLastErr 0

/-- TAKING AN ERROR, R103: `STATUS.LASTERR <- k`, `STATUS[7+k] <- 1`, "and nothing else". The machine goes nowhere: "there
is no vector, no handler address, no saved state, no mode change and no mask"; and there is no return from an error,
"because there is no trap" (R105): the next transaction runs as after a success. The error's `info` is stored nowhere
(R101). -/
def State.raise (s : State) (e : CmdError) : State :=
  (s.setLastErr e.lastErr).setSticky (s.sticky ||| e.stickyFlag)

/-- A command that succeeds with the state `s`. -/
def done (s : State) : Host.Outcome State Fault Refusal := .next s.succeed

/-- A command that fails in the state `s`: a next state, with the error in `STATUS` and nothing else changed. -/
def fail (s : State) (e : CmdError) : Host.Outcome State Fault Refusal := .next (s.raise e)

/-- R78, R81: where REVBUF and FLIP put their result: OBUF and `OLEN` (`o = 0`), or IBUF in place (`o = 1`). -/
def State.deliver (s : State) (o : Bool) (r : List Byte) : State :=
  if o then s.setIbuf (s.ibuf.writeFromZero r) else s.setObuf (s.obuf.replaceAll r)

/-! ### The register port (R11, R33, R34) -/

/-- R11: the register with a given number. -/
def PortReg.ofNum (a : RegNum) : PortReg :=
  match a.toNat with
  | 0 => .cmd
  | 1 => .status
  | 2 => .crc
  | 3 => .res
  | 4 => .width
  | 5 => .height
  | 6 => .ilen
  | 7 => .olen
  | 8 => .ptr
  | 9 => .idata
  | 10 => .odata
  | _ => .reserved

/-- R11, R93: what `IDATA` or `ODATA` reads: `zext_16` of the byte at `PTR`, or 0x8000 where the buffer has none. -/
def window (m : Memory) (ptr : Word) : Word :=
  match m.read ptr.toNat with
  | some b => b.zeroExtend 16
  | none => 0x8000

/-- R11, column "value read". The lengths are at most `BUF_SIZE <= 65535` (R17), so 16 bits hold them
(log entry 9). -/
def State.regValue (s : State) : PortReg → Word
  | .cmd => 0x0000
  | .status => statusWord s.sticky s.lastErr
  | .crc => s.crc.zeroExtend 16
  | .res => s.res.zeroExtend 16
  | .width => s.width
  | .height => s.height
  | .ilen => BitVec.ofNat 16 s.ibuf.length
  | .olen => BitVec.ofNat 16 s.obuf.length
  | .ptr => s.ptr
  | .idata => window s.ibuf s.ptr
  | .odata => window s.obuf s.ptr
  | .reserved => 0x0000

/-- R33: the value a read of register number `a` returns. -/
def State.readReg (s : State) (a : RegNum) : Word := s.regValue (PortReg.ofNum a)

/-- R34, without the register `CMD`: the three writable registers take all 16 bits; a write anywhere else "is accepted and
completes, and changes nothing". (A write to `CMD` is a command: Machine/Transaction.lean.) -/
def State.writePlain (s : State) (r : PortReg) (w : Word) : State :=
  match r with
  | .width => s.setWidth w
  | .height => s.setHeight w
  | .ptr => s.setPtr w
  | .cmd => s
  | .status => s
  | .crc => s
  | .res => s
  | .ilen => s
  | .olen => s
  | .idata => s
  | .odata => s
  | .reserved => s

/-! ### The host's side (R7, R44, R115) -/

/-- The host presents what is left of its events after the one now taken. -/
def State.setPending (s : State) (es : List HostEvent) : State := { s with pending := es }

/-- R44: the transaction completes with `rsp_rdata = r`. -/
def State.respond (s : State) (r : Word) : State := { s with responses := s.responses ++ [r] }

/-- R21, R115: every piece of architectural state to its reset value. The parameters are not state and survive (R116); so do
the host's own events to come and the answers it has. -/
def State.applyReset (s : State) : State :=
  { State.resetWith s.cfg with pending := s.pending, responses := s.responses }

end Sys2Proof.Machine
end

