-- ==== Sys2Proof/Machine/Operands.lean ====
section
/-! DEFINITION. The operands that come from state (R49) and the pure functions of them: the frame of a payload (R60) and
the flip of a bitmap (R80). The other operand form, `imm8` and the modifier bits, is an argument of Instr as it stands
(R49: "never sign-extended, scaled or shifted"). -/

namespace Sys2Proof.Machine

/-! ### The payload and its frame -/

/-- R49: "the payload or bitmap from IBUF and `ILEN`": `IBUF[0..ILEN)`. -/
abbrev State.payload (s : State) : List Byte := s.ibuf

/-- R4: `MAX_PAYLOAD`, fixed by the source. -/
abbrev maxPayload : Nat := 255

/-- R60: `[0x51, 0x78, opcode, 0x00, n, 0x00] ++ payload ++ [checksum(payload), 0xFF]`, with the byte 0x12 before it if
`prefixed`. R61 asks for it with at most 255 payload bytes only, so that `n` is one byte. -/
def frame (c : Config) (payload : List Byte) (opcode : Byte) (prefixed : Bool) : List Byte :=
  (if prefixed then [0x12#8] else []) ++
    ([0x51#8, 0x78#8, opcode, 0x00#8, BitVec.ofNat 8 payload.length, 0x00#8] ++ payload ++
      [checksum c payload, 0xFF#8])

/-! ### The bitmap and its flip -/

/-- R81: `W8 <- WIDTH div 8`, the bytes of one row. -/
abbrev State.rowBytes (s : State) : Nat := s.width.toNat / 8

/-- R81: `WIDTH mod 8 = 0` and `W8 * HEIGHT = ILEN`, the product exact. -/
def State.geometryFits (s : State) : Bool :=
  s.width.toNat % 8 = 0 && s.rowBytes * s.height.toNat = s.ibuf.length

/-- R80: the index in `B` of the byte that goes to index `k = r * W8 + c` of the result: row `H-1-r` instead of `r` if `v`,
byte `W8-1-c` instead of `c` if `h`. -/
def flipSource (w8 hgt : Nat) (h v : Bool) (k : Nat) : Nat :=
  let r := k / w8
  let c := k % w8
  (if v then hgt - 1 - r else r) * w8 + (if h then w8 - 1 - c else c)

/-- R80: `flip(B, W, H, h, v)` of a bitmap of `W8` bytes a row and `H` rows: each byte from its source, mirrored if `h`.
For a bitmap of this geometry every source is a byte of `B` (R94); the byte 0 beside `getD` is never used
(log entry 8). -/
def flipBitmap (b : List Byte) (w8 hgt : Nat) (h v : Bool) : List Byte :=
  (List.range b.length).map fun k =>
    let x := (Memory.read b (flipSource w8 hgt h v k)).getD 0#8
    if h then reverseBits x else x

end Sys2Proof.Machine
end

