-- ==== Sys2Proof/Machine/Bitmap.lean ====
section
/-! DEFINITION. The bitmap transformer: REVB, REVBUF, FLIP (spec file 42_bitmap.md). -/

namespace Sys2Proof.Machine

/-- R76: `RES <- reverse_bits(b)`. -/
def execRevb (b : Byte) (s : State) : Host.Outcome State Fault Refusal := done (s.setRes (reverseBits b))

/-- R78: every byte of IBUF mirrored, to OBUF or in place. -/
def execRevbuf (o : Bool) (s : State) : Host.Outcome State Fault Refusal :=
  done (s.deliver o (revbuf s.payload))

/-- R81: with neither `h` nor `v` the content as it is, with no check; else `BadGeometry` unless the geometry fits IBUF,
and the flip of R80. The result is computed from IBUF as it stood before the command (R120). -/
def execFlip (h v o : Bool) (s : State) : Host.Outcome State Fault Refusal :=
  if !h && !v then done (s.deliver o s.payload)
  else if s.geometryFits then done (s.deliver o (flipBitmap s.payload s.rowBytes s.height.toNat h v))
  else fail s .badGeometry

end Sys2Proof.Machine
end

