-- ==== Sys2Proof/Machine/BufferControl.lean ====
section
/-! DEFINITION. Buffer and control commands: NOP, PUSH, CLR (spec file 43_buffer_control.md). -/

namespace Sys2Proof.Machine

/-- R90: nothing but `STATUS.LASTERR <- 0`. -/
def execNop (s : State) : Host.Outcome State Fault Refusal := done s

/-- R91: append `b` to IBUF, or `BufferFull` when `ILEN = BUF_SIZE`. -/
def execPush (b : Byte) (s : State) : Host.Outcome State Fault Refusal :=
  if s.ibuf.full s.cfg then fail s .bufferFull
  else done (s.setIbuf (s.ibuf.append b))

/-- R92: empty IBUF if `i`, OBUF if `o`, clear the sticky flags if `e`. -/
def execClr (i o e : Bool) (s : State) : Host.Outcome State Fault Refusal :=
  let s1 := if i then s.setIbuf s.ibuf.empty else s
  let s2 := if o then s1.setObuf s1.obuf.empty else s1
  let s3 := if e then s2.setSticky 0 else s2
  done s3

end Sys2Proof.Machine
end

