-- ==== Sys2Proof/Machine/Checksum.lean ====
section
/-! DEFINITION. The checksum commands: CRCI, CRCB, CRCBUF (spec file 41_checksum.md). -/

namespace Sys2Proof.Machine

/-- R70: `CRC <- CRC_INIT`. -/
def execCrci (s : State) : Host.Outcome State Fault Refusal := done (s.setCrc crcInit)

/-- R71: `CRC <- T[CRC xor b]`, "with the `CRC` on the right the value before the command". -/
def execCrcb (b : Byte) (s : State) : Host.Outcome State Fault Refusal :=
  done (s.setCrc (crcStep s.cfg s.crc b))

/-- R72: `CRC <- checksum(IBUF[0..ILEN))`, with no length limit. -/
def execCrcbuf (s : State) : Host.Outcome State Fault Refusal :=
  done (s.setCrc (checksum s.cfg s.payload))

end Sys2Proof.Machine
end

