-- ==== Sys2Proof/Machine/Frame.lean ====
section
/-! DEFINITION. The command framer: FRAME (spec file 40_frame.md). -/

namespace Sys2Proof.Machine

/-- R61: `PayloadTooLarge` when `ILEN > 255`, on the whole of `ILEN` and before any write; else the frame to OBUF and the
payload's checksum to `CRC`. -/
def execFrame (opcode : Byte) (p : Bool) (s : State) : Host.Outcome State Fault Refusal :=
  if maxPayload < s.payload.length then fail s .payloadTooLarge
  else
    done ((s.setObuf (s.obuf.replaceAll (frame s.cfg s.payload opcode p))).setCrc (checksum s.cfg s.payload))

end Sys2Proof.Machine
end

