-- ==== Sys2Proof/Machine/Dispatch.lean ====
section
/-! DEFINITION. Each command's meaning, one arm per constructor of Instr. -/

namespace Sys2Proof.Machine

/-- R45: "execute d by its own rule". -/
def exec (i : Instr) (s : State) : Host.Outcome State Fault Refusal :=
  match i with
  | .nop => Sys2Proof.Machine.execNop s
  | .frame opcode p => Sys2Proof.Machine.execFrame opcode p s
  | .crci => Sys2Proof.Machine.execCrci s
  | .crcb b => Sys2Proof.Machine.execCrcb b s
  | .crcbuf => Sys2Proof.Machine.execCrcbuf s
  | .revb b => Sys2Proof.Machine.execRevb b s
  | .revbuf o => Sys2Proof.Machine.execRevbuf o s
  | .flip h v o => Sys2Proof.Machine.execFlip h v o s
  | .push b => Sys2Proof.Machine.execPush b s
  | .clr ib ob ef => Sys2Proof.Machine.execClr ib ob ef s

end Sys2Proof.Machine
end

