-- ==== Sys2Proof/Machine/Transaction.lean ====
section
/-! DEFINITION. What one event of the host does (R33, R34, R45, R115), the event having been taken off the host's list. -/

namespace Sys2Proof.Machine

/-- R45: the command word `w` is executed, as one atomic step: an illegal word raises `IllegalCommand` (R50), a legal one is
executed by its own rule. -/
def runCommand (w : Word) (s : State) : Host.Outcome State Fault Refusal :=
  match decode w with
  | .ok i => exec i s
  | .error _ => fail s .illegalCommand

/-- R34: a write of `w` to register number `a`. -/
def writeReg (a : RegNum) (w : Word) (s : State) : Host.Outcome State Fault Refusal :=
  if PortReg.ofNum a = .cmd then runCommand w s else .next (s.writePlain (PortReg.ofNum a) w)

/-- One event. A read answers its value and changes nothing (R33); a write answers 0x0000 (R44) and has its effect (R34); a
reset is no transaction and answers nothing (R115). -/
def perform (e : HostEvent) (s : State) : Host.Outcome State Fault Refusal :=
  match e with
  | .read a => .next (s.respond (s.readReg a))
  | .write a w => writeReg a w (s.respond 0x0000)
  | .reset => .next s.applyReset

/-- The number of the register `CMD` (R11). -/
def cmdNum : RegNum := 0

/-- The host's list with a write of the command word `w` to `CMD` put in front of what it would do next. -/
def commandFirst (w : Word) (es : List HostEvent) : List HostEvent := .write cmdNum w :: es

end Sys2Proof.Machine
end

