-- ==== Sys2Proof/Machine/Step.lean ====
section
/-! DEFINITION. One step of the machine: the next event the host has waiting, taken and performed to completion. -/

namespace Sys2Proof.Machine

/-- One step. PCODEC has no program counter and fetches nothing (R13): it performs the next event of the host, in the order
the host chose, each completely before the next (R7, R39). With no event waiting it "is idle and keeps all its state"
(R110). -/
def step (s : State) : Host.Outcome State Fault Refusal :=
  match s.pending with
  | [] => .next s
  | e :: rest => perform e (s.setPending rest)

/-- `s` with the command word made of the `nbits` low bits of `w` as the next thing the host writes to `CMD`. A command word
"is delivered by the write that executes it" (R42), so this is where a step gets its instruction from (log entry 2). -/
def State.withFetchWord (s : State) (nbits w : Nat) : State :=
  s.setPending (commandFirst (tableWord nbits w) s.pending)

end Sys2Proof.Machine
end

