-- ==== Sys2Proof/Safety.lean ====
section
/-! DEFINITION. The terms the claims are stated in: the invariant of R22, the operands of a word (R47), what a
command leaves unchanged, what an error does (R103), which parts a command may write (R35), and the pixels of a bitmap (R84). -/

namespace Sys2Proof.Machine

/-- R22 and R4: what holds in every reachable state. The reserved bits of `STATUS` are 0 by the way the word is composed
(`statusWord`); the last part says that a non-zero `LASTERR = k` is at most 4 and that sticky bit `7 + k` is set. -/
abbrev State.Inv (s : State) : Prop :=
  s.cfg.Admissible ∧ s.ibuf.wf s.cfg.bufSize ∧ s.obuf.wf s.cfg.bufSize ∧
    (s.lastErr = 0 ∨ (s.lastErr.toNat ≤ 4 ∧ s.sticky.getLsbD (s.lastErr.toNat - 1) = true))

/-- The nine items of R10's table. -/
inductive Part where
  | crc | res | width | height | ptr | lastErr | sticky | ibuf | obuf
  deriving DecidableEq, Repr

/-- One item of R10's table is the same in `s` and `t`. A buffer is, when its length is and every index reads as before. -/
def Part.Same (p : Part) (s t : State) : Prop :=
  match p with
  | .crc => t.crc = s.crc
  | .res => t.res = s.res
  | .width => t.width = s.width
  | .height => t.height = s.height
  | .ptr => t.ptr = s.ptr
  | .lastErr => t.lastErr = s.lastErr
  | .sticky => t.sticky = s.sticky
  | .ibuf => t.ibuf.length = s.ibuf.length ∧ ∀ k, t.ibuf.read k = s.ibuf.read k
  | .obuf => t.obuf.length = s.obuf.length ∧ ∀ k, t.obuf.read k = s.obuf.read k

/-- The model's own parts are the same: the parameters, the host's events to come and the answers it has. -/
def HostSame (s t : State) : Prop :=
  t.cfg = s.cfg ∧ t.pending = s.pending ∧ t.responses = s.responses

/-- THE FRAME: every item of R10's table but those in `written`, and the model's own parts, are unchanged. -/
def KeepsAllBut (written : List Part) (s t : State) : Prop :=
  (∀ p : Part, p ∉ written → p.Same s t) ∧ HostSame s t

/-- R103: "ends the command with exactly this effect": `STATUS.LASTERR <- k`, `STATUS[7+k] <- 1`, and nothing else; the
other three sticky flags are as they were. -/
def Raises (e : CmdError) (s t : State) : Prop :=
  t.lastErr.toNat = e.code ∧
    (∀ j, j < 4 → t.sticky.getLsbD j = (s.sticky.getLsbD j || decide (7 + e.code = 8 + j))) ∧
    KeepsAllBut [.lastErr, .sticky] s t

/-- R47 (columns "uses `imm8` as" and "uses `mod` bits"), R48: the operands of the command are the bits of its word that
are theirs: `imm8` is bits 15:8 as they stand, a modifier is its one bit of bits 3:0. -/
def OperandsAreBitsOf (w : Word) : Instr → Prop
  | .nop => True
  | .frame opcode p => opcode.toNat = w.toNat / 256 ∧ p = w.getLsbD 0
  | .crci => True
  | .crcb b => b.toNat = w.toNat / 256
  | .crcbuf => True
  | .revb b => b.toNat = w.toNat / 256
  | .revbuf o => o = w.getLsbD 3
  | .flip h v o => h = w.getLsbD 0 ∧ v = w.getLsbD 1 ∧ o = w.getLsbD 3
  | .push b => b.toNat = w.toNat / 256
  | .clr i o e => i = w.getLsbD 0 ∧ o = w.getLsbD 1 ∧ e = w.getLsbD 2

/-- R35, column "writes": the parts a command may write. Both buffers stand for REVBUF and FLIP by their modifier `o`; the
lengths are the buffers' own (R17); `STATUS` is `LASTERR` and the sticky flags. -/
def writesOf : Instr → List Part
  | .nop => [.lastErr, .sticky]
  | .frame _ _ => [.obuf, .crc, .lastErr, .sticky]
  | .crci => [.crc, .lastErr, .sticky]
  | .crcb _ => [.crc, .lastErr, .sticky]
  | .crcbuf => [.crc, .lastErr, .sticky]
  | .revb _ => [.res, .lastErr, .sticky]
  | .revbuf o => (if o then [.ibuf] else [.obuf]) ++ [.lastErr, .sticky]
  | .flip _ _ o => (if o then [.ibuf] else [.obuf]) ++ [.lastErr, .sticky]
  | .push _ => [.ibuf, .lastErr, .sticky]
  | .clr i o _ => (if i then [.ibuf] else []) ++ (if o then [.obuf] else []) ++ [.lastErr, .sticky]

/-- The nine items of R10's table have their reset values (R21). -/
def AtReset (t : State) : Prop :=
  t.crc = 0x00#8 ∧ t.res = 0x00#8 ∧ t.width = 0x0000#16 ∧ t.height = 0x0000#16 ∧ t.ptr = 0x0000#16 ∧
    t.lastErr = 0#4 ∧ t.sticky = 0#4 ∧ t.ibuf.length = 0 ∧ t.obuf.length = 0

/-- R78, R81, "Writes": the result of REVBUF or FLIP went where the modifier `o` says, and nothing else changed but
`LASTERR`, which is 0: `n` bytes to OBUF and `OLEN`, or in place to IBUF. `good` is what is said of the buffer written. -/
def Delivers (o : Bool) (s t : State) (n : Nat) (good : Memory → Prop) : Prop :=
  t.lastErr = 0#4 ∧
    (if o then t.ibuf.length = n ∧ good t.ibuf ∧ KeepsAllBut [.ibuf, .lastErr] s t
     else t.obuf.length = n ∧ good t.obuf ∧ KeepsAllBut [.obuf, .lastErr] s t)

/-- R80, the table: the byte `F[r*W8 + c]` of the flipped bitmap. -/
def flippedByte (b : List Byte) (w8 hgt : Nat) (h v : Bool) (r c : Nat) : Option Byte :=
  match h, v with
  | false, false => Memory.read b (r * w8 + c)
  | true, false => (Memory.read b (r * w8 + (w8 - 1 - c))).map reverseBits
  | false, true => Memory.read b ((hgt - 1 - r) * w8 + c)
  | true, true => (Memory.read b ((hgt - 1 - r) * w8 + (w8 - 1 - c))).map reverseBits

/-- The commands `is` executed one after another. -/
def execAll : List Instr → State → Host.Outcome State Fault Refusal
  | [], s => .next s
  | i :: is, s =>
    match exec i s with
    | .next t => execAll is t
    | .fault r => .fault r
    | .refused r => .refused r

/-- The state in which the step of a state performs its event: the event is off the host's list. -/
def State.taken (s : State) (rest : List HostEvent) : State := { s with pending := rest }

/-- The state in which a command runs: its write is off the host's list and completes with 0x0000 (R44). -/
def State.accepted (s : State) (rest : List HostEvent) : State :=
  { s with pending := rest, responses := s.responses ++ [0x0000#16] }

/-- R67: the 256 values of `T07` as the spec prints them, row by row. -/
def printedT07 : List Byte :=
  [0x00, 0x07, 0x0E, 0x09, 0x1C, 0x1B, 0x12, 0x15, 0x38, 0x3F, 0x36, 0x31, 0x24, 0x23, 0x2A, 0x2D] ++
  [0x70, 0x77, 0x7E, 0x79, 0x6C, 0x6B, 0x62, 0x65, 0x48, 0x4F, 0x46, 0x41, 0x54, 0x53, 0x5A, 0x5D] ++
  [0xE0, 0xE7, 0xEE, 0xE9, 0xFC, 0xFB, 0xF2, 0xF5, 0xD8, 0xDF, 0xD6, 0xD1, 0xC4, 0xC3, 0xCA, 0xCD] ++
  [0x90, 0x97, 0x9E, 0x99, 0x8C, 0x8B, 0x82, 0x85, 0xA8, 0xAF, 0xA6, 0xA1, 0xB4, 0xB3, 0xBA, 0xBD] ++
  [0xC7, 0xC0, 0xC9, 0xCE, 0xDB, 0xDC, 0xD5, 0xD2, 0xFF, 0xF8, 0xF1, 0xF6, 0xE3, 0xE4, 0xED, 0xEA] ++
  [0xB7, 0xB0, 0xB9, 0xBE, 0xAB, 0xAC, 0xA5, 0xA2, 0x8F, 0x88, 0x81, 0x86, 0x93, 0x94, 0x9D, 0x9A] ++
  [0x27, 0x20, 0x29, 0x2E, 0x3B, 0x3C, 0x35, 0x32, 0x1F, 0x18, 0x11, 0x16, 0x03, 0x04, 0x0D, 0x0A] ++
  [0x57, 0x50, 0x59, 0x5E, 0x4B, 0x4C, 0x45, 0x42, 0x6F, 0x68, 0x61, 0x66, 0x73, 0x74, 0x7D, 0x7A] ++
  [0x89, 0x8E, 0x87, 0x80, 0x95, 0x92, 0x9B, 0x9C, 0xB1, 0xB6, 0xBF, 0xB8, 0xAD, 0xAA, 0xA3, 0xA4] ++
  [0xF9, 0xFE, 0xF7, 0xF0, 0xE5, 0xE2, 0xEB, 0xEC, 0xC1, 0xC6, 0xCF, 0xC8, 0xDD, 0xDA, 0xD3, 0xD4] ++
  [0x69, 0x6E, 0x67, 0x60, 0x75, 0x72, 0x7B, 0x7C, 0x51, 0x56, 0x5F, 0x58, 0x4D, 0x4A, 0x43, 0x44] ++
  [0x19, 0x1E, 0x17, 0x10, 0x05, 0x02, 0x0B, 0x0C, 0x21, 0x26, 0x2F, 0x28, 0x3D, 0x3A, 0x33, 0x34] ++
  [0x4E, 0x49, 0x40, 0x47, 0x52, 0x55, 0x5C, 0x5B, 0x76, 0x71, 0x78, 0x7F, 0x6A, 0x6D, 0x64, 0x63] ++
  [0x3E, 0x39, 0x30, 0x37, 0x22, 0x25, 0x2C, 0x2B, 0x06, 0x01, 0x08, 0x0F, 0x1A, 0x1D, 0x14, 0x13] ++
  [0xAE, 0xA9, 0xA0, 0xA7, 0xB2, 0xB5, 0xBC, 0xBB, 0x96, 0x91, 0x98, 0x9F, 0x8A, 0x8D, 0x84, 0x83] ++
  [0xDE, 0xD9, 0xD0, 0xD7, 0xC2, 0xC5, 0xCC, 0xCB, 0xE6, 0xE1, 0xE8, 0xEF, 0xFA, 0xFD, 0xF4, 0xF3]

/-- R84: the pixel `(x, y)` of a bitmap of `w8` bytes a row: bit `7 - (x mod 8)` of byte `y * W8 + x div 8`; none outside
the bytes given. -/
def pixel (b : List Byte) (w8 x y : Nat) : Option Bool :=
  (Memory.read b (y * w8 + x / 8)).map fun byte => byte.getLsbD (7 - x % 8)

/-- The number of 1 bits of a byte (R82 (f)). -/
def onesOfByte (b : Byte) : Nat := ((List.range 8).filter fun i => b.getLsbD i).length

/-- The number of 1 bits of a buffer (R82 (f)). -/
def onesOf (s : List Byte) : Nat := (s.map onesOfByte).sum

/-- The event is a write of a command word to `CMD`. -/
def HostEvent.isCommand (e : HostEvent) : Bool :=
  match e with
  | .write a _ => a = cmdNum
  | .read _ => false
  | .reset => false

/-- The event is a write of the command word of some instruction of the list (R45). -/
def HostEvent.commands (e : HostEvent) (p : Instr → Bool) : Bool :=
  match e with
  | .write a w =>
    a = cmdNum && (match decode w with
      | .ok i => p i
      | .error _ => false)
  | .read _ => false
  | .reset => false

/-- The event is a register transaction (R44), which completes with one answer; a reset is none. -/
def HostEvent.isTransaction (e : HostEvent) : Bool :=
  match e with
  | .reset => false
  | .read _ => true
  | .write _ _ => true

end Sys2Proof.Machine
end

