-- ==== Sys2Proof/Certificates/Slice0/Obligations.lean ====
section
/-! DEFINITION. What is claimed of the machine, rule by rule of the spec. Nothing here is proved. -/

open Sys2Proof Sys2Proof.Machine

/-! ### Encoding (30_encoding.md) -/

/-- R46: the one format: `w = imm8 * 256 + op * 16 + mod`, and the three fields make the word again. -/
def Obligations.WordIsItsThreeFields : Prop :=
  ∀ w : Word,
    w.toNat = (Fields.ofWord w).imm8.toNat * 256 + (Fields.ofWord w).op.toNat * 16 + (Fields.ofWord w).mod.toNat ∧
      (Fields.ofWord w).toWord = w

/-- R47, R48, R51: the decoder and the encoder are inverse to each other, on every command with every operand and on every
word: no bit of a word is dropped and no word stands for two commands. -/
def Obligations.DecodeAndEncodeAgree : Prop :=
  ∀ (w : Word) (i : Instr), decode w = .ok i ↔ encode i = w

/-- R47: "a word `w` is the command of a row exactly when `(w and mask) = match`", no two rows overlap, and the command's
operands are the bits of the word the row names. -/
def Obligations.OpMapRowNamesTheCommand : Prop :=
  (∀ (w : Word) (row : OpRow), row ∈ opMap → (row.matches w = true ↔ ∃ i, decode w = .ok i ∧ i.mnemonic = row.mnemonic)) ∧
    (∀ (w : Word) (r₁ r₂ : OpRow), r₁ ∈ opMap → r₂ ∈ opMap → r₁.matches w = true → r₂.matches w = true → r₁ = r₂) ∧
    (∀ (w : Word) (i : Instr), decode w = .ok i → OperandsAreBitsOf w i)

/-- R50: a word is a command exactly when none of the three conditions holds of its fields; a write of an illegal word to
`CMD` raises `IllegalCommand` and has no other effect. -/
def Obligations.IllegalWordRaisesIllegalCommand : Prop :=
  (∀ w : Word, (∃ i, decode w = .ok i) ↔ (Fields.ofWord w).wellFormed = true) ∧
    ∀ (s : State) (w : Word) (rest : List HostEvent), s.pending = .write 0 w :: rest →
      (Fields.ofWord w).wellFormed = false →
        ∃ t, step s = .next t ∧ Raises .illegalCommand (s.accepted rest) t

/-- R51: "1301 in all; the other 64235 words are illegal". -/
def Obligations.LegalWordsAre1301 : Prop :=
  ((List.range 65536).filter fun n => (decodeTableWord 16 n).isSome).length = 1301

/-- Words written out from the encodings of R47 decode to the commands they stand for, one or more of each family. -/
def Obligations.WrittenOutWordsDecode : Prop :=
  decode 0b0000000000000000#16 = .ok .nop ∧
    decode 0b1010111000010001#16 = .ok (.frame 0xAE true) ∧
    decode 0b0001000000110000#16 = .ok (.crcb 0x10) ∧
    decode 0b0001001001010000#16 = .ok (.revb 0x12) ∧
    decode 0b0000000001101000#16 = .ok (.revbuf true) ∧
    decode 0b0000000001110001#16 = .ok (.flip true false false) ∧
    decode 0b1111000010000000#16 = .ok (.push 0xF0) ∧
    decode 0b0000000010010101#16 = .ok (.clr true false true)

/-- R56: the legal encodings that change nothing but `STATUS.LASTERR` are 0x0000, 0x0090 and 0x0078, in every state; and
every other command changes something else in some state that keeps the invariant of R22. -/
def Obligations.DegenerateFormsAreThese : Prop :=
  (∀ i : Instr, encode i ∈ [0x0000#16, 0x0090#16, 0x0078#16] →
    ∀ s : State, ∃ t, exec i s = .next t ∧ t.lastErr = 0#4 ∧ KeepsAllBut [.lastErr] s t) ∧
    (∀ i : Instr, encode i ∉ [0x0000#16, 0x0090#16, 0x0078#16] →
      ∃ s t : State, s.Inv ∧ exec i s = .next t ∧ ¬ KeepsAllBut [.lastErr] s t)

/-! ### A step of the machine -/

/-- R45: a legal word written to `CMD` is executed by its own rule, in the state whose next event it was, the write
completing with 0x0000; so is the word `withFetchWord` places. -/
def Obligations.StepRunsTheDecodedCommand : Prop :=
  (∀ (s : State) (w : Word) (rest : List HostEvent) (i : Instr), s.pending = .write 0 w :: rest → decode w = .ok i →
    step s = exec i (s.accepted rest)) ∧
    (∀ (s : State) (nbits n : Nat) (i : Instr), decodeTableWord nbits n = some i →
      step (s.withFetchWord nbits n) = exec i (s.accepted s.pending))

/-- R7, R110: "Between transactions PCODEC is idle and keeps all its state." That a step with no event waiting stands for
this is the model's choice (log entry 2). -/
def Obligations.IdleKeepsAllState : Prop :=
  ∀ s : State, s.pending = [] → step s = .next s

/-- R11 (column "value read"), R33: a read answers the value of the map, computed from the state at that moment, and changes
nothing. -/
def Obligations.ReadAnswersTheRegisterMap : Prop :=
  ∀ (s : State) (a : RegNum) (rest : List HostEvent), s.pending = .read a :: rest →
    ∃ (t : State) (v : Word), step s = .next t ∧
      t = { s with pending := rest, responses := s.responses ++ [v] } ∧
      (a = 0 → v = 0x0000#16) ∧
      (a = 1 → v.extractLsb' 0 4 = s.lastErr ∧ v.extractLsb' 4 4 = 0#4 ∧ v.extractLsb' 8 4 = s.sticky ∧
        v.extractLsb' 12 4 = 0#4) ∧
      (a = 2 → v.toNat = s.crc.toNat) ∧
      (a = 3 → v.toNat = s.res.toNat) ∧
      (a = 4 → v = s.width) ∧
      (a = 5 → v = s.height) ∧
      (a = 6 → s.Inv → v.toNat = s.ibuf.length) ∧
      (a = 7 → s.Inv → v.toNat = s.obuf.length) ∧
      (a = 8 → v = s.ptr) ∧
      (a = 9 → (∀ b, s.ibuf.read s.ptr.toNat = some b → v.toNat = b.toNat) ∧
        (s.ibuf.length ≤ s.ptr.toNat → v = 0x8000#16)) ∧
      (a = 10 → (∀ b, s.obuf.read s.ptr.toNat = some b → v.toNat = b.toNat) ∧
        (s.obuf.length ≤ s.ptr.toNat → v = 0x8000#16)) ∧
      (11 ≤ a.toNat → v = 0x0000#16)

/-- R34: a write to `CMD` executes the word: a legal one by its own rule, an illegal one as `IllegalCommand`; a write to
`WIDTH`, `HEIGHT` or `PTR` puts all 16 bits there and changes nothing else; a write to a read-only register or a reserved
number completes and changes nothing. -/
def Obligations.WriteReachesOnlyItsRegister : Prop :=
  ∀ (s : State) (a : RegNum) (w : Word) (rest : List HostEvent), s.pending = .write a w :: rest →
    ∃ t, step s = .next t ∧
      (a = 0 → (∀ i, decode w = .ok i → exec i (s.accepted rest) = .next t) ∧
        ((∀ i, decode w ≠ .ok i) → Raises .illegalCommand (s.accepted rest) t)) ∧
      (a = 4 → t.width = w ∧ KeepsAllBut [.width] (s.accepted rest) t) ∧
      (a = 5 → t.height = w ∧ KeepsAllBut [.height] (s.accepted rest) t) ∧
      (a = 8 → t.ptr = w ∧ KeepsAllBut [.ptr] (s.accepted rest) t) ∧
      (a ≠ 0 → a ≠ 4 → a ≠ 5 → a ≠ 8 → KeepsAllBut [] (s.accepted rest) t)

/-- R9, R107, R121: every event the host presents, whatever it is and whatever the state, is performed; each transaction
completes with one answer; nothing hangs. -/
def Obligations.EveryTransactionCompletes : Prop :=
  ∀ s : State, ∃ t, Sys2Proof.core.run s.pending.length s = .next t ∧ t.pending = [] ∧
    t.responses.length = s.responses.length + (s.pending.filter HostEvent.isTransaction).length

/-- R39: transactions take effect one at a time in the order issued, and no transaction depends on a later one: what the
events `ys` are changes nothing of what the events `xs` before them do and answer. -/
def Obligations.EarlierTransactionsIgnoreLater : Prop :=
  ∀ (s : State) (xs ys : List HostEvent),
    ∃ t, Sys2Proof.core.run xs.length (s.taken xs) = .next t ∧
      Sys2Proof.core.run xs.length (s.taken (xs ++ ys)) = .next (t.taken ys)

/-! ### The commands: effect, encoding, errors and frame -/

/-- R90: NOP. -/
def Obligations.NopWritesOnlyLasterr : Prop :=
  decode 0x0000#16 = .ok .nop ∧
    ∀ s : State, ∃ t, exec .nop s = .next t ∧ t.lastErr = 0#4 ∧ KeepsAllBut [.lastErr] s t

/-- R91: PUSH appends its byte at index `ILEN`, or drops it and raises `BufferFull` when `ILEN = BUF_SIZE`. -/
def Obligations.PushAppendsOneByte : Prop :=
  (∀ b : Byte, decode (BitVec.ofNat 16 (b.toNat * 256 + 0x80)) = .ok (.push b)) ∧
    (∀ (b : Byte) (s : State), s.ibuf.length ≠ s.cfg.bufSize →
      ∃ t, exec (.push b) s = .next t ∧ t.ibuf.length = s.ibuf.length + 1 ∧
        t.ibuf.read s.ibuf.length = some b ∧ (∀ k, k ≠ s.ibuf.length → t.ibuf.read k = s.ibuf.read k) ∧
        t.lastErr = 0#4 ∧ KeepsAllBut [.ibuf, .lastErr] s t) ∧
    (∀ (b : Byte) (s : State), s.ibuf.length = s.cfg.bufSize →
      ∃ t, exec (.push b) s = .next t ∧ Raises .bufferFull s t)

/-- R92: CLR empties the buffers and clears the sticky flags its modifiers name, and nothing else. -/
def Obligations.ClrClearsWhatItNames : Prop :=
  (∀ i o e : Bool, decode (BitVec.ofNat 16 (0x90 + i.toNat + 2 * o.toNat + 4 * e.toNat)) = .ok (.clr i o e)) ∧
    ∀ (i o e : Bool) (s : State), ∃ t, exec (.clr i o e) s = .next t ∧ t.lastErr = 0#4 ∧
      (if i then t.ibuf.length = 0 else Part.ibuf.Same s t) ∧
      (if o then t.obuf.length = 0 else Part.obuf.Same s t) ∧
      (if e then t.sticky = 0#4 else t.sticky = s.sticky) ∧
      KeepsAllBut [.ibuf, .obuf, .sticky, .lastErr] s t

/-- R60, R61, R62: FRAME: with at most 255 bytes in IBUF every byte of the frame is in OBUF at its index, `OLEN` is
`n + 8 + p` and `CRC` is the payload's checksum; with more, `PayloadTooLarge`. -/
def Obligations.FrameBuildsTheWireForm : Prop :=
  (∀ (opcode : Byte) (p : Bool),
    decode (BitVec.ofNat 16 (opcode.toNat * 256 + 0x10 + p.toNat)) = .ok (.frame opcode p)) ∧
    (∀ (opcode : Byte) (p : Bool) (s : State), s.ibuf.length ≤ 255 →
      ∃ t, exec (.frame opcode p) s = .next t ∧
        t.obuf.length = s.ibuf.length + 8 + p.toNat ∧
        (p = true → t.obuf.read 0 = some 0x12#8) ∧
        t.obuf.read p.toNat = some 0x51#8 ∧
        t.obuf.read (p.toNat + 1) = some 0x78#8 ∧
        t.obuf.read (p.toNat + 2) = some opcode ∧
        t.obuf.read (p.toNat + 3) = some 0x00#8 ∧
        (∃ n : Byte, t.obuf.read (p.toNat + 4) = some n ∧ n.toNat = s.ibuf.length) ∧
        t.obuf.read (p.toNat + 5) = some 0x00#8 ∧
        (∀ k, k < s.ibuf.length → t.obuf.read (p.toNat + 6 + k) = s.ibuf.read k) ∧
        t.obuf.read (p.toNat + 6 + s.ibuf.length) = some (checksum s.cfg s.ibuf) ∧
        t.obuf.read (p.toNat + 7 + s.ibuf.length) = some 0xFF#8 ∧
        t.crc = checksum s.cfg s.ibuf ∧
        8 ≤ t.obuf.length ∧ t.obuf.length ≤ 264 ∧
        t.lastErr = 0#4 ∧ KeepsAllBut [.obuf, .crc, .lastErr] s t) ∧
    (∀ (opcode : Byte) (p : Bool) (s : State), 255 < s.ibuf.length →
      ∃ t, exec (.frame opcode p) s = .next t ∧ Raises .payloadTooLarge s t)

/-- R70: CRCI. -/
def Obligations.CrciStartsTheChecksum : Prop :=
  decode 0x0020#16 = .ok .crci ∧
    ∀ s : State, ∃ t, exec .crci s = .next t ∧ t.crc = 0x00#8 ∧ t.lastErr = 0#4 ∧ KeepsAllBut [.crc, .lastErr] s t

/-- R71: CRCB: `CRC <- T[CRC xor b]` with the old `CRC`; and CRCI then CRCB for each byte of a sequence leaves its
checksum in `CRC`. -/
def Obligations.CrcbFoldsOneByte : Prop :=
  (∀ b : Byte, decode (BitVec.ofNat 16 (b.toNat * 256 + 0x30)) = .ok (.crcb b)) ∧
    (∀ (b : Byte) (s : State), ∃ t, exec (.crcb b) s = .next t ∧
      s.cfg.crcTable[(s.crc ^^^ b).toNat]? = some t.crc ∧ t.lastErr = 0#4 ∧ KeepsAllBut [.crc, .lastErr] s t) ∧
    (∀ (bs : List Byte) (s : State), ∃ t, execAll (.crci :: bs.map .crcb) s = .next t ∧
      t.crc = checksum s.cfg bs ∧ t.lastErr = 0#4 ∧ KeepsAllBut [.crc, .lastErr] s t)

/-- R72: CRCBUF: the checksum of the whole of IBUF, whatever its length and whatever `CRC` was. -/
def Obligations.CrcbufSumsTheWholeBuffer : Prop :=
  decode 0x0040#16 = .ok .crcbuf ∧
    ∀ s : State, ∃ t, exec .crcbuf s = .next t ∧ t.crc = checksum s.cfg s.ibuf ∧ t.lastErr = 0#4 ∧
      KeepsAllBut [.crc, .lastErr] s t

/-- R76: REVB mirrors its byte into `RES`; REVB of the result returns the byte. -/
def Obligations.RevbMirrorsItsByte : Prop :=
  (∀ b : Byte, decode (BitVec.ofNat 16 (b.toNat * 256 + 0x50)) = .ok (.revb b)) ∧
    ∀ (b : Byte) (s : State), ∃ t, exec (.revb b) s = .next t ∧
      (∀ i, i < 8 → t.res.getLsbD i = b.getLsbD (7 - i)) ∧ t.lastErr = 0#4 ∧ KeepsAllBut [.res, .lastErr] s t ∧
      ∃ u, exec (.revb t.res) t = .next u ∧ u.res = b

/-- R78: REVBUF mirrors every byte of IBUF where it stands, for any `ILEN`, into OBUF or in place. -/
def Obligations.RevbufMirrorsEveryByte : Prop :=
  (∀ o : Bool, decode (BitVec.ofNat 16 (0x60 + 8 * o.toNat)) = .ok (.revbuf o)) ∧
    ∀ (o : Bool) (s : State), ∃ t, exec (.revbuf o) s = .next t ∧
      Delivers o s t s.ibuf.length fun m => ∀ k, m.read k = (s.ibuf.read k).map reverseBits

/-- R80, R81: FLIP: with neither `h` nor `v` the content as it is, with no check; with a geometry that fits IBUF, every
byte `F[r*W8 + c]` as R80's table says; else `BadGeometry`. -/
def Obligations.FlipMovesEveryByte : Prop :=
  (∀ h v o : Bool, decode (BitVec.ofNat 16 (0x70 + h.toNat + 2 * v.toNat + 8 * o.toNat)) = .ok (.flip h v o)) ∧
    (∀ (o : Bool) (s : State), ∃ t, exec (.flip false false o) s = .next t ∧
      Delivers o s t s.ibuf.length fun m => ∀ k, m.read k = s.ibuf.read k) ∧
    (∀ (h v o : Bool) (s : State), (h || v) = true → s.width.toNat % 8 = 0 →
      s.width.toNat / 8 * s.height.toNat = s.ibuf.length →
      ∃ t, exec (.flip h v o) s = .next t ∧
        Delivers o s t s.ibuf.length fun m => ∀ r c, r < s.height.toNat → c < s.width.toNat / 8 →
          m.read (r * (s.width.toNat / 8) + c) = flippedByte s.ibuf (s.width.toNat / 8) s.height.toNat h v r c) ∧
    (∀ (h v o : Bool) (s : State), (h || v) = true →
      (s.width.toNat % 8 ≠ 0 ∨ s.width.toNat / 8 * s.height.toNat ≠ s.ibuf.length) →
      ∃ t, exec (.flip h v o) s = .next t ∧ Raises .badGeometry s t)

/-- R35, column "writes": whatever a command does, the parts of the state not listed for it are as they were. -/
def Obligations.CommandsWriteOnlyTheirSpaces : Prop :=
  ∀ (i : Instr) (s t : State), exec i s = .next t → KeepsAllBut (writesOf i) s t

/-! ### Errors (60_exceptions.md) and the register STATUS -/

/-- R103, R104, R107: every write of a command word to `CMD`, legal or not, in every state, completes, and either succeeds
with `LASTERR = 0` or ends in exactly one of the four errors with that error's effect and no other. -/
def Obligations.CommandSucceedsOrRaisesPrecisely : Prop :=
  ∀ (s : State) (w : Word) (rest : List HostEvent), s.pending = .write 0 w :: rest →
    ∃ t, step s = .next t ∧ (t.lastErr = 0#4 ∨ ∃ e : CmdError, Raises e (s.accepted rest) t)

/-- R100: the errors and their causes: once decoded, only FRAME, FLIP with `h` or `v`, and PUSH can fail, each with its own
code and only for its own cause. -/
def Obligations.ErrorsComeFromTheirCauses : Prop :=
  ∀ (i : Instr) (s t : State), exec i s = .next t → t.lastErr ≠ 0#4 →
    (t.lastErr = 2#4 ∧ 255 < s.ibuf.length ∧ ∃ opcode p, i = .frame opcode p) ∨
    (t.lastErr = 3#4 ∧ (s.width.toNat % 8 ≠ 0 ∨ s.width.toNat / 8 * s.height.toNat ≠ s.ibuf.length) ∧
      ∃ h v o, i = .flip h v o ∧ (h || v) = true) ∨
    (t.lastErr = 4#4 ∧ s.ibuf.length = s.cfg.bufSize ∧ ∃ b, i = .push b)

/-- R15: "Every write to `CMD` rewrites this field. Nothing else does": no event that is neither a command nor a reset
changes `STATUS`. -/
def Obligations.OnlyCommandsChangeStatus : Prop :=
  ∀ (s t : State) (e : HostEvent) (rest : List HostEvent), s.pending = e :: rest → step s = .next t →
    e.isCommand = false → e ≠ .reset → t.readReg 1 = s.readReg 1

/-- R15, R105: a sticky flag stays set through every event but a reset and a CLR with `e`. -/
def Obligations.StickyFlagsPersist : Prop :=
  ∀ (s t : State) (e : HostEvent) (rest : List HostEvent) (j : Nat), s.pending = e :: rest → step s = .next t →
    s.sticky.getLsbD j = true → t.sticky.getLsbD j = false →
      e = .reset ∨ e.commands (fun i => match i with | .clr _ _ true => true | _ => false) = true

/-- R15: "no command's result depends on `STATUS`. In particular a set sticky flag does not stop later commands from
executing": two states that differ in `STATUS` only go to two states that differ in `STATUS` only, with the same
`LASTERR`. -/
def Obligations.NoResultDependsOnStatus : Prop :=
  ∀ (i : Instr) (s : State) (le st : BitVec 4),
    ∃ t t', exec i s = .next t ∧ exec i { s with lastErr := le, sticky := st } = .next t' ∧
      KeepsAllBut [.sticky] t t'

/-! ### Which events change which register (10_state.md) -/

/-- R12: `CRC` is written by CRCI, CRCB, CRCBUF and FRAME and by nothing else but reset; with FRAME only when it
succeeds. -/
def Obligations.CrcChangesOnlyByItsCommands : Prop :=
  ∀ (s t : State) (e : HostEvent) (rest : List HostEvent), s.pending = e :: rest → step s = .next t → t.crc ≠ s.crc →
    e = .reset ∨ (t.lastErr = 0#4 ∧ e.commands (fun i => match i with
      | .crci => true | .crcb _ => true | .crcbuf => true | .frame _ _ => true | _ => false) = true)

/-- R14: `RES` is written by REVB only; `WIDTH`, `HEIGHT` and `PTR` by host writes to registers 4, 5 and 8 only; and all
four by reset. -/
def Obligations.DataRegistersChangeOnlyByTheirWriters : Prop :=
  ∀ (s t : State) (e : HostEvent) (rest : List HostEvent), s.pending = e :: rest → step s = .next t → e ≠ .reset →
    (t.res ≠ s.res → e.commands (fun i => match i with | .revb _ => true | _ => false) = true) ∧
    (t.width ≠ s.width → ∃ w, e = .write 4 w ∧ t.width = w) ∧
    (t.height ≠ s.height → ∃ w, e = .write 5 w ∧ t.height = w) ∧
    (t.ptr ≠ s.ptr → ∃ w, e = .write 8 w ∧ t.ptr = w)

/-- R17: `ILEN` changes by PUSH (`+1`) and CLR with `i` (to 0) only; `OLEN` by FRAME, by REVBUF and FLIP without overwrite
(to the length of the result) and by CLR with `o` (to 0) only; and both, to 0, by reset. -/
def Obligations.LengthsChangeOnlyAsListed : Prop :=
  ∀ (s t : State) (e : HostEvent) (rest : List HostEvent), s.pending = e :: rest → step s = .next t →
    (t.ibuf.length ≠ s.ibuf.length →
      (t.ibuf.length = s.ibuf.length + 1 ∧ e.commands (fun i => match i with | .push _ => true | _ => false) = true) ∨
      (t.ibuf.length = 0 ∧
        (e = .reset ∨ e.commands (fun i => match i with | .clr true _ _ => true | _ => false) = true))) ∧
    (t.obuf.length ≠ s.obuf.length →
      ((t.obuf.length = s.ibuf.length + 8 ∧
          e.commands (fun i => match i with | .frame _ false => true | _ => false) = true) ∨
       (t.obuf.length = s.ibuf.length + 9 ∧
          e.commands (fun i => match i with | .frame _ true => true | _ => false) = true) ∨
       (t.obuf.length = s.ibuf.length ∧ e.commands (fun i => match i with
          | .revbuf false => true | .flip _ _ false => true | _ => false) = true) ∨
       (t.obuf.length = 0 ∧
          (e = .reset ∨ e.commands (fun i => match i with | .clr _ true _ => true | _ => false) = true))))

/-- R18, R116: the parameters never change, not by a command and not at reset. -/
def Obligations.ParametersNeverChange : Prop :=
  ∀ s t : State, step s = .next t → t.cfg = s.cfg

/-! ### Invariant and reset -/

/-- R22: the invariant is kept by every step, from every state that has it: the buffers keep their canonical form within
`BUF_SIZE`, the table stays admissible, `LASTERR` is a code and its sticky flag is set. -/
def Obligations.StepKeepsTheInvariant : Prop :=
  ∀ s t : State, s.Inv → step s = .next t → t.Inv

/-- The invariant holds in the machine right after reset, with every admissible choice of parameters and with the model's
own (log entries 3 and 4). -/
def Obligations.ResetHasTheInvariant : Prop :=
  State.reset.Inv ∧ ∀ c : Config, c.Admissible → (State.resetWith c).Inv

/-- R22: "In every reachable state": after any number of steps from reset, whatever the parameters and whatever the host
does, with the reserved bits of `STATUS` 0. -/
def Obligations.EveryReachableStateHasTheInvariant : Prop :=
  ∀ (c : Config) (es : List HostEvent) (n : Nat) (t : State), c.Admissible →
    Sys2Proof.core.run n ((State.resetWith c).taken es) = .next t →
      t.ibuf.length ≤ t.cfg.bufSize ∧ t.obuf.length ≤ t.cfg.bufSize ∧ (t.readReg 1).extractLsb' 4 4 = 0#4 ∧
        (t.readReg 1).extractLsb' 12 4 = 0#4 ∧ t.lastErr.toNat ≤ 4 ∧
        (1 ≤ t.lastErr.toNat → (t.readReg 1).getLsbD (7 + t.lastErr.toNat) = true)

/-- R21, R115: the state after reset; and a reset between any two transactions brings every item of R10's table to its
reset value, whatever it was, the parameters surviving (R116). That no event waits in `State.reset`, and that the host's
events to come and its answers survive a reset, is no rule of the spec but the model's choice (log entry 2). -/
def Obligations.ResetRestoresEveryItem : Prop :=
  AtReset State.reset ∧ State.reset.pending = [] ∧
    ∀ (s : State) (rest : List HostEvent), s.pending = .reset :: rest →
      ∃ t, step s = .next t ∧ AtReset t ∧ HostSame (s.taken rest) t

/-- R116: "the command sequence `CLR.IOE`, `CRCI`, `REVB 0`, `WR WIDTH, 0`, `WR HEIGHT, 0`, `WR PTR, 0`, `NOP` brings every
observable item to its reset value", from every state. -/
def Obligations.SevenWritesReachTheResetValues : Prop :=
  ∀ s : State, ∃ t, Sys2Proof.core.run 7 (s.taken [.write 0 0x0097, .write 0 0x0020, .write 0 0x0050, .write 4 0,
    .write 5 0, .write 8 0, .write 0 0x0000]) = .next t ∧ AtReset t

/-! ### The checksum (41_checksum.md) -/

/-- R65: `c_0 = 0x00`, `c_(k+1) = T[ c_k xor s[k] ]`, and `checksum(s) = c_n`: `c_k` is the checksum of the first `k`
bytes. -/
def Obligations.ChecksumFollowsTheRecurrence : Prop :=
  ∀ (c : Config) (s : List Byte), checksum c [] = 0x00#8 ∧
    ∀ (k : Nat) (b : Byte), s[k]? = some b →
      c.crcTable[(checksum c (s.take k) ^^^ b).toNat]? = some (checksum c (s.take (k + 1)))

/-- R69 (a) to (f): (a) to (d) for every table; (e) and (f) for `T07` only, which the spec marks "[from general knowledge, not
in source; checked by computation for `T07`]" (log entry 4). -/
def Obligations.ChecksumProperties : Prop :=
  (∀ c : Config, checksum c [] = 0x00#8 ∧ (∀ b : Byte, checksum c [b] = tableAt c b) ∧
    (∀ (s : List Byte) (b : Byte), checksum c (s ++ [b]) = tableAt c (checksum c s ^^^ b)) ∧
    (∀ (c' : Config) (s : List Byte), c'.crcTable = c.crcTable → checksum c' s = checksum c s)) ∧
    ∀ c : Config, c.crcTable = t07 →
      Function.Bijective (tableAt c) ∧ (∀ a b : Byte, tableAt c (a ^^^ b) = tableAt c a ^^^ tableAt c b) ∧
        ∀ s : List Byte, checksum c (s ++ [checksum c s]) = 0x00#8

/-- R67: the eight rounds give the 256 values the spec prints; and the customary check value 0xF4. The spec marks the whole
rule "[from general knowledge, not in source]"; that `State.reset` has this table is log entry 4. -/
def Obligations.DefaultTableIsAsPrinted : Prop :=
  t07.toList = printedT07 ∧
    ∀ c : Config, c.crcTable = t07 →
      checksum c [0x31#8, 0x32#8, 0x33#8, 0x34#8, 0x35#8, 0x36#8, 0x37#8, 0x38#8, 0x39#8] = 0xF4#8

/-- R68, R73: the pause and resume frames' checksums, with every admissible table; and the two golden values, with the
default table `T07`, which is admissible (log entry 4: `T07` is the spec's default, not the source's table). -/
def Obligations.PinnedChecksums : Prop :=
  (∀ c : Config, c.Admissible → checksum c [0x10#8] = 0x70#8 ∧ checksum c [0x00#8] = 0x00#8) ∧
    ∀ c : Config, c.crcTable = t07 → c.Admissible ∧
      checksum c [0x01#8, 0x02#8, 0x03#8] = 0x48#8 ∧ checksum c [0x31#8, 0x32#8, 0x33#8] = 0xC0#8

/-- R74: `T07` bit by bit, derived by the spec from R67 (log entry 4). -/
def Obligations.DefaultTableBitEquations : Prop :=
  ∀ (c : Config) (x : Byte), c.crcTable = t07 →
    let b := fun i => x.getLsbD i
    let y := fun i => (tableAt c x).getLsbD i
    y 0 = (b 7 ^^ b 6 ^^ b 0) ∧ y 1 = (b 6 ^^ b 1 ^^ b 0) ∧ y 2 = (b 6 ^^ b 2 ^^ b 1 ^^ b 0) ∧
      y 3 = (b 7 ^^ b 3 ^^ b 2 ^^ b 1) ∧ y 4 = (b 4 ^^ b 3 ^^ b 2) ∧ y 5 = (b 5 ^^ b 4 ^^ b 3) ∧
      y 6 = (b 6 ^^ b 5 ^^ b 4) ∧ y 7 = (b 7 ^^ b 6 ^^ b 5)

/-! ### The bitmap (42_bitmap.md) -/

/-- R75: `reverse_bits`: bit by bit, its own inverse, a bijection, and its sixteen fixed points. -/
def Obligations.ReverseBitsIsTheMirror : Prop :=
  (∀ (b : Byte) (i : Nat), i < 8 → (reverseBits b).getLsbD i = b.getLsbD (7 - i)) ∧
    (∀ b : Byte, (reverseBits b).toNat = ((List.range 8).map fun i => (b.getLsbD i).toNat * 2 ^ (7 - i)).sum) ∧
    (∀ b : Byte, reverseBits (reverseBits b) = b) ∧ Function.Bijective reverseBits ∧
    ∀ b : Byte, reverseBits b = b ↔ b ∈ [0x00#8, 0x18#8, 0x24#8, 0x3C#8, 0x42#8, 0x5A#8, 0x66#8, 0x7E#8] ++
      [0x81#8, 0x99#8, 0xA5#8, 0xBD#8, 0xC3#8, 0xDB#8, 0xE7#8, 0xFF#8]

/-- R83: the three-stage swap form computes the same function. -/
def Obligations.ReverseBitsByThreeSwaps : Prop :=
  ∀ b : Byte,
    let b1 := ((b &&& 0xAA#8) >>> 1) ||| ((b &&& 0x55#8) <<< 1)
    let b2 := ((b1 &&& 0xCC#8) >>> 2) ||| ((b1 &&& 0x33#8) <<< 2)
    reverseBits b = ((b2 &&& 0xF0#8) >>> 4) ||| ((b2 &&& 0x0F#8) <<< 4)

/-- R80, R84, on pixels: a horizontal flip sends `(x, y)` to `(W-1-x, y)`, a vertical flip to `(x, H-1-y)`, both together
to the half-turn. -/
def Obligations.FlipMirrorsThePicture : Prop :=
  ∀ (b : List Byte) (w8 hgt : Nat) (h v : Bool), b.length = w8 * hgt →
    ∀ x y, x < 8 * w8 → y < hgt →
      pixel (flipBitmap b w8 hgt h v) w8 (if h then 8 * w8 - 1 - x else x) (if v then hgt - 1 - y else y) = pixel b w8 x y ∧
        (pixel b w8 x y).isSome = true

/-- R77: `revbuf` keeps the length, mirrors each byte in place, moves the pixel at column `x` to column
`8*(x div 8) + 7 - (x mod 8)` of the same row, and is its own inverse. -/
def Obligations.RevbufMirrorsGroupsOfEight : Prop :=
  ∀ s : List Byte, (revbuf s).length = s.length ∧
    (∀ k, Memory.read (revbuf s) k = (Memory.read s k).map reverseBits) ∧ revbuf (revbuf s) = s ∧
    ∀ w8 x y, x < 8 * w8 → pixel (revbuf s) w8 (8 * (x / 8) + 7 - x % 8) y = pixel s w8 x y

/-- R82: the laws (a) to (g) of the flips and of `revbuf`, for every bitmap of a geometry FLIP accepts. -/
def Obligations.FlipLaws : Prop :=
  ∀ (b : List Byte) (w8 hgt : Nat), b.length = w8 * hgt →
    (∀ h v, flipBitmap (flipBitmap b w8 hgt h v) w8 hgt h v = b) ∧
    (flipBitmap (flipBitmap b w8 hgt true false) w8 hgt false true = flipBitmap b w8 hgt true true ∧
      flipBitmap (flipBitmap b w8 hgt false true) w8 hgt true false = flipBitmap b w8 hgt true true) ∧
    flipBitmap b w8 hgt true true = (b.map reverseBits).reverse ∧
    (∀ r c, r < hgt → c < w8 →
      Memory.read (revbuf (flipBitmap b w8 hgt true false)) (r * w8 + c) = Memory.read b (r * w8 + (w8 - 1 - c))) ∧
    (∀ h v, revbuf (flipBitmap b w8 hgt h v) = flipBitmap (revbuf b) w8 hgt h v) ∧
    (∀ h v, (flipBitmap b w8 hgt h v).length = b.length ∧ onesOf (flipBitmap b w8 hgt h v) = onesOf b ∧
      (revbuf b).length = b.length ∧ onesOf (revbuf b) = onesOf b) ∧
    (∀ x : Byte, x = 0x00#8 ∨ x = 0xFF#8 → (∀ y ∈ b, y = x) → revbuf b = b ∧ ∀ h v, flipBitmap b w8 hgt h v = b)

/-- R122 rule 4, R82 (a): issuing the same REVBUF.O or FLIP with `o` again restores IBUF. -/
def Obligations.OverwriteTwiceRestores : Prop :=
  ∀ (i : Instr) (s t : State), (i = .revbuf true ∨ ∃ h v, i = .flip h v true) → exec i s = .next t → t.lastErr = 0#4 →
    ∃ u, exec i t = .next u ∧ u.lastErr = 0#4 ∧ KeepsAllBut [.lastErr] s u
end

