-- ==== Sys2Proof/Laws/Memory.lean ====
section
/-! SUPPORT. The buffers: what each operation does to a read and to the length, and that each keeps the canonical form. -/

namespace Sys2Proof.Machine

theorem Memory.read_eq (m : Memory) (k : Nat) : m.read k = m[k]? := rfl

theorem Memory.read_eq_none (m : Memory) (k : Nat) : m.read k = none ↔ m.length ≤ k := by simp [Memory.read_eq]

@[simp] theorem Memory.length_append (m : Memory) (b : Byte) : (m.append b).length = m.length + 1 := by simp [Memory.append]

theorem Memory.read_append_self (m : Memory) (b : Byte) : (m.append b).read m.length = some b := by simp [Memory.append, Memory.read_eq]

theorem Memory.read_append_ne (m : Memory) (b : Byte) {k : Nat} (h : k ≠ m.length) : (m.append b).read k = m.read k := by
  rcases Nat.lt_or_ge k m.length with hk | hk
  · simp [Memory.append, Memory.read_eq, List.getElem?_append_left hk]
  · have : m.length < k := by omega
    simp [Memory.append, Memory.read_eq, hk, this]

@[simp] theorem Memory.replaceAll_eq (m : Memory) (bs : List Byte) : m.replaceAll bs = bs := rfl

@[simp] theorem Memory.empty_eq (m : Memory) : m.empty = ([] : List Byte) := rfl

/-- Writing as many bytes as the buffer holds, from index 0, makes them its content. -/
theorem Memory.writeFromZero_eq (m : Memory) (bs : List Byte) (h : bs.length = m.length) : m.writeFromZero bs = bs := by
  simp [Memory.writeFromZero, h]

theorem Memory.length_writeFromZero (m : Memory) (bs : List Byte) (h : bs.length ≤ m.length) :
    (m.writeFromZero bs).length = m.length := by
  simp only [Memory.writeFromZero, List.length_append, List.length_drop]
  omega

/-- R91: the test for a full buffer is `length = BUF_SIZE`. -/
theorem Memory.full_iff (m : Memory) (c : Config) : m.full c = true ↔ m.length = c.bufSize := by
  simp only [Memory.full, Bool.and_eq_true, decide_eq_true_eq, Config.bufSize]
  omega

/-! ### The canonical form -/

theorem Memory.cells_addresses (m : Memory) : m.cells.map Prod.fst = List.range m.length := by
  simp [Memory.cells, Function.comp_def, List.zipIdx_map_snd, List.range_eq_range']

theorem Memory.cells_bytes (m : Memory) : m.cells.map Prod.snd = m := by
  simp [Memory.cells, Function.comp_def]

/-- Equal cells are equal buffers: the written out form loses nothing. -/
theorem Memory.cells_injective {m n : Memory} (h : m.cells = n.cells) : m = n := by
  rw [← Memory.cells_bytes m, h, Memory.cells_bytes]

/-- The addresses of a buffer written out rise strictly. -/
theorem Memory.cells_strictly_rising (m : Memory) : (m.cells.map Prod.fst).Pairwise (· < ·) := by
  rw [Memory.cells_addresses]
  exact List.pairwise_lt_range

theorem Memory.wf_iff (cap : Nat) (m : Memory) : m.wf cap = true ↔ m.length ≤ cap := by
  simp [Memory.wf, Memory.cells_addresses]

theorem Memory.wf_empty (cap : Nat) (m : Memory) : m.empty.wf cap = true := by simp [Memory.wf_iff]

theorem Memory.wf_append {cap : Nat} {m : Memory} (b : Byte) (h : m.wf cap = true) (hne : m.length ≠ cap) :
    (m.append b).wf cap = true := by
  rw [Memory.wf_iff] at h ⊢
  rw [Memory.length_append]
  omega

theorem Memory.wf_replaceAll {cap : Nat} (m : Memory) {bs : List Byte} (h : bs.length ≤ cap) :
    (m.replaceAll bs).wf cap = true := by simpa [Memory.wf_iff] using h

theorem Memory.wf_writeFromZero {cap : Nat} {m : Memory} {bs : List Byte} (h : m.wf cap = true) (hl : bs.length ≤ m.length) :
    (m.writeFromZero bs).wf cap = true := by
  rw [Memory.wf_iff] at h ⊢
  rwa [Memory.length_writeFromZero m bs hl]

end Sys2Proof.Machine
end

