-- ==== Sys2Proof/Laws/Operands.lean ====
section
/-! SUPPORT. The pure functions: lengths, reads by index, and where the source of a flipped byte lies. -/

namespace Sys2Proof.Machine

/-! ### The checksum -/

theorem checksum_nil (c : Config) : checksum c [] = crcInit := rfl

/-- Folding two sequences one after the other. -/
theorem checksum_append (c : Config) (s t : List Byte) :
    checksum c (s ++ t) = t.foldl (crcStep c) (checksum c s) := by simp [checksum]

theorem tableAt_getElem? (c : Config) (i : Byte) : c.crcTable[i.toNat]? = some (tableAt c i) := by
  have h : i.toNat < 256 := i.isLt
  simp [tableAt, h]

theorem t07_get (i : Nat) (h : i < 256) : t07[i] = t07Entry (BitVec.ofNat 8 i) := by simp [t07]

/-! ### Mirror -/

@[simp] theorem length_revbuf (s : List Byte) : (revbuf s).length = s.length := by simp [revbuf]

theorem read_revbuf (s : List Byte) (k : Nat) : Memory.read (revbuf s) k = (Memory.read s k).map reverseBits := by
  simp [revbuf, Memory.read_eq]

/-! ### The frame -/

theorem length_frame (c : Config) (s : List Byte) (opcode : Byte) (p : Bool) :
    (frame c s opcode p).length = s.length + 8 + p.toNat := by
  cases p <;> simp [frame]

/-- A frame of at most 255 payload bytes fits every OBUF (R4, R94). -/
theorem length_frame_le (c : Config) (s : List Byte) (opcode : Byte) (p : Bool) (h : s.length ≤ 255) :
    (frame c s opcode p).length ≤ c.bufSize := by
  have := p.toNat_le
  rw [length_frame]
  simp only [Config.bufSize, minBufSize]
  omega

/-- The prefix byte is the only difference between the two forms of a frame. -/
theorem frame_prefixed (c : Config) (s : List Byte) (opcode : Byte) :
    frame c s opcode true = 0x12#8 :: frame c s opcode false := rfl

/-! ### The flip -/

@[simp] theorem length_flipBitmap (b : List Byte) (w8 hgt : Nat) (h v : Bool) : (flipBitmap b w8 hgt h v).length = b.length := by
  simp [flipBitmap]

/-- The source of the byte at row `r`, column `c`, in R80's own terms. -/
theorem flipSource_at (w8 hgt : Nat) (h v : Bool) {r c : Nat} (hc : c < w8) :
    flipSource w8 hgt h v (r * w8 + c) =
      (if v then hgt - 1 - r else r) * w8 + (if h then w8 - 1 - c else c) := by
  have h1 : (r * w8 + c) / w8 = r := by
    rw [Nat.mul_comm, Nat.mul_add_div (by omega), Nat.div_eq_of_lt hc, Nat.add_zero]
  have h2 : (r * w8 + c) % w8 = c := by
    rw [Nat.mul_comm, Nat.mul_add_mod, Nat.mod_eq_of_lt hc]
  simp [flipSource, h1, h2]

/-- An index inside `hgt` rows of `w8` bytes. -/
theorem row_index_lt {w8 hgt r c : Nat} (hr : r < hgt) (hc : c < w8) : r * w8 + c < w8 * hgt := by
  calc r * w8 + c < r * w8 + w8 := by omega
    _ = (r + 1) * w8 := by ring
    _ ≤ hgt * w8 := Nat.mul_le_mul_right _ hr
    _ = w8 * hgt := Nat.mul_comm _ _

/-- Every index inside a bitmap has a row and a column. -/
theorem index_row_column {w8 hgt k : Nat} (hk : k < w8 * hgt) :
    ∃ r c, r < hgt ∧ c < w8 ∧ k = r * w8 + c := by
  have hw : 0 < w8 := Nat.pos_of_ne_zero fun h => by simp [h] at hk
  exact ⟨k / w8, k % w8, Nat.div_lt_of_lt_mul hk, Nat.mod_lt _ hw, by rw [Nat.mul_comm]; exact (Nat.div_add_mod k w8).symm⟩

/-- R94: the source of a flipped byte is an index of the bitmap. -/
theorem flipSource_lt {w8 hgt : Nat} (h v : Bool) {k : Nat} (hk : k < w8 * hgt) :
    flipSource w8 hgt h v k < w8 * hgt := by
  obtain ⟨r, c, hr, hc, rfl⟩ := index_row_column hk
  rw [flipSource_at w8 hgt h v hc]
  apply row_index_lt <;> split <;> omega

/-- R80: one byte of the flip, read by index: no default byte is ever used inside the bitmap. -/
theorem read_flipBitmap {b : List Byte} {w8 hgt : Nat} (h v : Bool) (hb : b.length = w8 * hgt) {k : Nat} (hk : k < w8 * hgt) :
    Memory.read (flipBitmap b w8 hgt h v) k =
      (Memory.read b (flipSource w8 hgt h v k)).map (if h then reverseBits else id) := by
  have hs : flipSource w8 hgt h v k < b.length := hb ▸ flipSource_lt h v hk
  have hk' : k < b.length := hb ▸ hk
  cases h <;> simp [flipBitmap, Memory.read_eq, hk', hs]

end Sys2Proof.Machine
end

