-- ==== Sys2Proof/Laws/State.lean ====
section
/-! SUPPORT. One lemma per field per update of the state, so that no proof unfolds a record update. -/

namespace Sys2Proof.Machine

variable (s : State)

/-! ### setCrc -/

@[simp] theorem setCrc_crc (v : Byte) : (s.setCrc v).crc = v := rfl
@[simp] theorem setCrc_res (v : Byte) : (s.setCrc v).res = s.res := rfl
@[simp] theorem setCrc_width (v : Byte) : (s.setCrc v).width = s.width := rfl
@[simp] theorem setCrc_height (v : Byte) : (s.setCrc v).height = s.height := rfl
@[simp] theorem setCrc_ptr (v : Byte) : (s.setCrc v).ptr = s.ptr := rfl
@[simp] theorem setCrc_lastErr (v : Byte) : (s.setCrc v).lastErr = s.lastErr := rfl
@[simp] theorem setCrc_sticky (v : Byte) : (s.setCrc v).sticky = s.sticky := rfl
@[simp] theorem setCrc_ibuf (v : Byte) : (s.setCrc v).ibuf = s.ibuf := rfl
@[simp] theorem setCrc_obuf (v : Byte) : (s.setCrc v).obuf = s.obuf := rfl
@[simp] theorem setCrc_cfg (v : Byte) : (s.setCrc v).cfg = s.cfg := rfl
@[simp] theorem setCrc_pending (v : Byte) : (s.setCrc v).pending = s.pending := rfl
@[simp] theorem setCrc_responses (v : Byte) : (s.setCrc v).responses = s.responses := rfl

/-! ### setRes -/

@[simp] theorem setRes_crc (v : Byte) : (s.setRes v).crc = s.crc := rfl
@[simp] theorem setRes_res (v : Byte) : (s.setRes v).res = v := rfl
@[simp] theorem setRes_width (v : Byte) : (s.setRes v).width = s.width := rfl
@[simp] theorem setRes_height (v : Byte) : (s.setRes v).height = s.height := rfl
@[simp] theorem setRes_ptr (v : Byte) : (s.setRes v).ptr = s.ptr := rfl
@[simp] theorem setRes_lastErr (v : Byte) : (s.setRes v).lastErr = s.lastErr := rfl
@[simp] theorem setRes_sticky (v : Byte) : (s.setRes v).sticky = s.sticky := rfl
@[simp] theorem setRes_ibuf (v : Byte) : (s.setRes v).ibuf = s.ibuf := rfl
@[simp] theorem setRes_obuf (v : Byte) : (s.setRes v).obuf = s.obuf := rfl
@[simp] theorem setRes_cfg (v : Byte) : (s.setRes v).cfg = s.cfg := rfl
@[simp] theorem setRes_pending (v : Byte) : (s.setRes v).pending = s.pending := rfl
@[simp] theorem setRes_responses (v : Byte) : (s.setRes v).responses = s.responses := rfl

/-! ### setWidth -/

@[simp] theorem setWidth_crc (v : Word) : (s.setWidth v).crc = s.crc := rfl
@[simp] theorem setWidth_res (v : Word) : (s.setWidth v).res = s.res := rfl
@[simp] theorem setWidth_width (v : Word) : (s.setWidth v).width = v := rfl
@[simp] theorem setWidth_height (v : Word) : (s.setWidth v).height = s.height := rfl
@[simp] theorem setWidth_ptr (v : Word) : (s.setWidth v).ptr = s.ptr := rfl
@[simp] theorem setWidth_lastErr (v : Word) : (s.setWidth v).lastErr = s.lastErr := rfl
@[simp] theorem setWidth_sticky (v : Word) : (s.setWidth v).sticky = s.sticky := rfl
@[simp] theorem setWidth_ibuf (v : Word) : (s.setWidth v).ibuf = s.ibuf := rfl
@[simp] theorem setWidth_obuf (v : Word) : (s.setWidth v).obuf = s.obuf := rfl
@[simp] theorem setWidth_cfg (v : Word) : (s.setWidth v).cfg = s.cfg := rfl
@[simp] theorem setWidth_pending (v : Word) : (s.setWidth v).pending = s.pending := rfl
@[simp] theorem setWidth_responses (v : Word) : (s.setWidth v).responses = s.responses := rfl

/-! ### setHeight -/

@[simp] theorem setHeight_crc (v : Word) : (s.setHeight v).crc = s.crc := rfl
@[simp] theorem setHeight_res (v : Word) : (s.setHeight v).res = s.res := rfl
@[simp] theorem setHeight_width (v : Word) : (s.setHeight v).width = s.width := rfl
@[simp] theorem setHeight_height (v : Word) : (s.setHeight v).height = v := rfl
@[simp] theorem setHeight_ptr (v : Word) : (s.setHeight v).ptr = s.ptr := rfl
@[simp] theorem setHeight_lastErr (v : Word) : (s.setHeight v).lastErr = s.lastErr := rfl
@[simp] theorem setHeight_sticky (v : Word) : (s.setHeight v).sticky = s.sticky := rfl
@[simp] theorem setHeight_ibuf (v : Word) : (s.setHeight v).ibuf = s.ibuf := rfl
@[simp] theorem setHeight_obuf (v : Word) : (s.setHeight v).obuf = s.obuf := rfl
@[simp] theorem setHeight_cfg (v : Word) : (s.setHeight v).cfg = s.cfg := rfl
@[simp] theorem setHeight_pending (v : Word) : (s.setHeight v).pending = s.pending := rfl
@[simp] theorem setHeight_responses (v : Word) : (s.setHeight v).responses = s.responses := rfl

/-! ### setPtr -/

@[simp] theorem setPtr_crc (v : Word) : (s.setPtr v).crc = s.crc := rfl
@[simp] theorem setPtr_res (v : Word) : (s.setPtr v).res = s.res := rfl
@[simp] theorem setPtr_width (v : Word) : (s.setPtr v).width = s.width := rfl
@[simp] theorem setPtr_height (v : Word) : (s.setPtr v).height = s.height := rfl
@[simp] theorem setPtr_ptr (v : Word) : (s.setPtr v).ptr = v := rfl
@[simp] theorem setPtr_lastErr (v : Word) : (s.setPtr v).lastErr = s.lastErr := rfl
@[simp] theorem setPtr_sticky (v : Word) : (s.setPtr v).sticky = s.sticky := rfl
@[simp] theorem setPtr_ibuf (v : Word) : (s.setPtr v).ibuf = s.ibuf := rfl
@[simp] theorem setPtr_obuf (v : Word) : (s.setPtr v).obuf = s.obuf := rfl
@[simp] theorem setPtr_cfg (v : Word) : (s.setPtr v).cfg = s.cfg := rfl
@[simp] theorem setPtr_pending (v : Word) : (s.setPtr v).pending = s.pending := rfl
@[simp] theorem setPtr_responses (v : Word) : (s.setPtr v).responses = s.responses := rfl

/-! ### setLastErr -/

@[simp] theorem setLastErr_crc (v : BitVec 4) : (s.setLastErr v).crc = s.crc := rfl
@[simp] theorem setLastErr_res (v : BitVec 4) : (s.setLastErr v).res = s.res := rfl
@[simp] theorem setLastErr_width (v : BitVec 4) : (s.setLastErr v).width = s.width := rfl
@[simp] theorem setLastErr_height (v : BitVec 4) : (s.setLastErr v).height = s.height := rfl
@[simp] theorem setLastErr_ptr (v : BitVec 4) : (s.setLastErr v).ptr = s.ptr := rfl
@[simp] theorem setLastErr_lastErr (v : BitVec 4) : (s.setLastErr v).lastErr = v := rfl
@[simp] theorem setLastErr_sticky (v : BitVec 4) : (s.setLastErr v).sticky = s.sticky := rfl
@[simp] theorem setLastErr_ibuf (v : BitVec 4) : (s.setLastErr v).ibuf = s.ibuf := rfl
@[simp] theorem setLastErr_obuf (v : BitVec 4) : (s.setLastErr v).obuf = s.obuf := rfl
@[simp] theorem setLastErr_cfg (v : BitVec 4) : (s.setLastErr v).cfg = s.cfg := rfl
@[simp] theorem setLastErr_pending (v : BitVec 4) : (s.setLastErr v).pending = s.pending := rfl
@[simp] theorem setLastErr_responses (v : BitVec 4) : (s.setLastErr v).responses = s.responses := rfl

/-! ### setSticky -/

@[simp] theorem setSticky_crc (v : BitVec 4) : (s.setSticky v).crc = s.crc := rfl
@[simp] theorem setSticky_res (v : BitVec 4) : (s.setSticky v).res = s.res := rfl
@[simp] theorem setSticky_width (v : BitVec 4) : (s.setSticky v).width = s.width := rfl
@[simp] theorem setSticky_height (v : BitVec 4) : (s.setSticky v).height = s.height := rfl
@[simp] theorem setSticky_ptr (v : BitVec 4) : (s.setSticky v).ptr = s.ptr := rfl
@[simp] theorem setSticky_lastErr (v : BitVec 4) : (s.setSticky v).lastErr = s.lastErr := rfl
@[simp] theorem setSticky_sticky (v : BitVec 4) : (s.setSticky v).sticky = v := rfl
@[simp] theorem setSticky_ibuf (v : BitVec 4) : (s.setSticky v).ibuf = s.ibuf := rfl
@[simp] theorem setSticky_obuf (v : BitVec 4) : (s.setSticky v).obuf = s.obuf := rfl
@[simp] theorem setSticky_cfg (v : BitVec 4) : (s.setSticky v).cfg = s.cfg := rfl
@[simp] theorem setSticky_pending (v : BitVec 4) : (s.setSticky v).pending = s.pending := rfl
@[simp] theorem setSticky_responses (v : BitVec 4) : (s.setSticky v).responses = s.responses := rfl

/-! ### setIbuf -/

@[simp] theorem setIbuf_crc (v : Memory) : (s.setIbuf v).crc = s.crc := rfl
@[simp] theorem setIbuf_res (v : Memory) : (s.setIbuf v).res = s.res := rfl
@[simp] theorem setIbuf_width (v : Memory) : (s.setIbuf v).width = s.width := rfl
@[simp] theorem setIbuf_height (v : Memory) : (s.setIbuf v).height = s.height := rfl
@[simp] theorem setIbuf_ptr (v : Memory) : (s.setIbuf v).ptr = s.ptr := rfl
@[simp] theorem setIbuf_lastErr (v : Memory) : (s.setIbuf v).lastErr = s.lastErr := rfl
@[simp] theorem setIbuf_sticky (v : Memory) : (s.setIbuf v).sticky = s.sticky := rfl
@[simp] theorem setIbuf_ibuf (v : Memory) : (s.setIbuf v).ibuf = v := rfl
@[simp] theorem setIbuf_obuf (v : Memory) : (s.setIbuf v).obuf = s.obuf := rfl
@[simp] theorem setIbuf_cfg (v : Memory) : (s.setIbuf v).cfg = s.cfg := rfl
@[simp] theorem setIbuf_pending (v : Memory) : (s.setIbuf v).pending = s.pending := rfl
@[simp] theorem setIbuf_responses (v : Memory) : (s.setIbuf v).responses = s.responses := rfl

/-! ### setObuf -/

@[simp] theorem setObuf_crc (v : Memory) : (s.setObuf v).crc = s.crc := rfl
@[simp] theorem setObuf_res (v : Memory) : (s.setObuf v).res = s.res := rfl
@[simp] theorem setObuf_width (v : Memory) : (s.setObuf v).width = s.width := rfl
@[simp] theorem setObuf_height (v : Memory) : (s.setObuf v).height = s.height := rfl
@[simp] theorem setObuf_ptr (v : Memory) : (s.setObuf v).ptr = s.ptr := rfl
@[simp] theorem setObuf_lastErr (v : Memory) : (s.setObuf v).lastErr = s.lastErr := rfl
@[simp] theorem setObuf_sticky (v : Memory) : (s.setObuf v).sticky = s.sticky := rfl
@[simp] theorem setObuf_ibuf (v : Memory) : (s.setObuf v).ibuf = s.ibuf := rfl
@[simp] theorem setObuf_obuf (v : Memory) : (s.setObuf v).obuf = v := rfl
@[simp] theorem setObuf_cfg (v : Memory) : (s.setObuf v).cfg = s.cfg := rfl
@[simp] theorem setObuf_pending (v : Memory) : (s.setObuf v).pending = s.pending := rfl
@[simp] theorem setObuf_responses (v : Memory) : (s.setObuf v).responses = s.responses := rfl

/-! ### setPending -/

@[simp] theorem setPending_crc (v : List HostEvent) : (s.setPending v).crc = s.crc := rfl
@[simp] theorem setPending_res (v : List HostEvent) : (s.setPending v).res = s.res := rfl
@[simp] theorem setPending_width (v : List HostEvent) : (s.setPending v).width = s.width := rfl
@[simp] theorem setPending_height (v : List HostEvent) : (s.setPending v).height = s.height := rfl
@[simp] theorem setPending_ptr (v : List HostEvent) : (s.setPending v).ptr = s.ptr := rfl
@[simp] theorem setPending_lastErr (v : List HostEvent) : (s.setPending v).lastErr = s.lastErr := rfl
@[simp] theorem setPending_sticky (v : List HostEvent) : (s.setPending v).sticky = s.sticky := rfl
@[simp] theorem setPending_ibuf (v : List HostEvent) : (s.setPending v).ibuf = s.ibuf := rfl
@[simp] theorem setPending_obuf (v : List HostEvent) : (s.setPending v).obuf = s.obuf := rfl
@[simp] theorem setPending_cfg (v : List HostEvent) : (s.setPending v).cfg = s.cfg := rfl
@[simp] theorem setPending_pending (v : List HostEvent) : (s.setPending v).pending = v := rfl
@[simp] theorem setPending_responses (v : List HostEvent) : (s.setPending v).responses = s.responses := rfl

/-! ### respond -/

@[simp] theorem respond_crc (r : Word) : (s.respond r).crc = s.crc := rfl
@[simp] theorem respond_res (r : Word) : (s.respond r).res = s.res := rfl
@[simp] theorem respond_width (r : Word) : (s.respond r).width = s.width := rfl
@[simp] theorem respond_height (r : Word) : (s.respond r).height = s.height := rfl
@[simp] theorem respond_ptr (r : Word) : (s.respond r).ptr = s.ptr := rfl
@[simp] theorem respond_lastErr (r : Word) : (s.respond r).lastErr = s.lastErr := rfl
@[simp] theorem respond_sticky (r : Word) : (s.respond r).sticky = s.sticky := rfl
@[simp] theorem respond_ibuf (r : Word) : (s.respond r).ibuf = s.ibuf := rfl
@[simp] theorem respond_obuf (r : Word) : (s.respond r).obuf = s.obuf := rfl
@[simp] theorem respond_cfg (r : Word) : (s.respond r).cfg = s.cfg := rfl
@[simp] theorem respond_pending (r : Word) : (s.respond r).pending = s.pending := rfl
@[simp] theorem respond_responses (r : Word) : (s.respond r).responses = s.responses ++ [r] := rfl

/-! ### succeed (R45) -/

@[simp] theorem succeed_crc : s.succeed.crc = s.crc := rfl
@[simp] theorem succeed_res : s.succeed.res = s.res := rfl
@[simp] theorem succeed_width : s.succeed.width = s.width := rfl
@[simp] theorem succeed_height : s.succeed.height = s.height := rfl
@[simp] theorem succeed_ptr : s.succeed.ptr = s.ptr := rfl
@[simp] theorem succeed_lastErr : s.succeed.lastErr = 0 := rfl
@[simp] theorem succeed_sticky : s.succeed.sticky = s.sticky := rfl
@[simp] theorem succeed_ibuf : s.succeed.ibuf = s.ibuf := rfl
@[simp] theorem succeed_obuf : s.succeed.obuf = s.obuf := rfl
@[simp] theorem succeed_cfg : s.succeed.cfg = s.cfg := rfl
@[simp] theorem succeed_pending : s.succeed.pending = s.pending := rfl
@[simp] theorem succeed_responses : s.succeed.responses = s.responses := rfl

/-! ### raise (R103) -/

@[simp] theorem raise_crc (e : CmdError) : (s.raise e).crc = s.crc := rfl
@[simp] theorem raise_res (e : CmdError) : (s.raise e).res = s.res := rfl
@[simp] theorem raise_width (e : CmdError) : (s.raise e).width = s.width := rfl
@[simp] theorem raise_height (e : CmdError) : (s.raise e).height = s.height := rfl
@[simp] theorem raise_ptr (e : CmdError) : (s.raise e).ptr = s.ptr := rfl
@[simp] theorem raise_lastErr (e : CmdError) : (s.raise e).lastErr = e.lastErr := rfl
@[simp] theorem raise_sticky (e : CmdError) : (s.raise e).sticky = s.sticky ||| e.stickyFlag := rfl
@[simp] theorem raise_ibuf (e : CmdError) : (s.raise e).ibuf = s.ibuf := rfl
@[simp] theorem raise_obuf (e : CmdError) : (s.raise e).obuf = s.obuf := rfl
@[simp] theorem raise_cfg (e : CmdError) : (s.raise e).cfg = s.cfg := rfl
@[simp] theorem raise_pending (e : CmdError) : (s.raise e).pending = s.pending := rfl
@[simp] theorem raise_responses (e : CmdError) : (s.raise e).responses = s.responses := rfl

/-! ### applyReset (R21, R115) -/

@[simp] theorem applyReset_crc : s.applyReset.crc = 0 := rfl
@[simp] theorem applyReset_res : s.applyReset.res = 0 := rfl
@[simp] theorem applyReset_width : s.applyReset.width = 0 := rfl
@[simp] theorem applyReset_height : s.applyReset.height = 0 := rfl
@[simp] theorem applyReset_ptr : s.applyReset.ptr = 0 := rfl
@[simp] theorem applyReset_lastErr : s.applyReset.lastErr = 0 := rfl
@[simp] theorem applyReset_sticky : s.applyReset.sticky = 0 := rfl
@[simp] theorem applyReset_ibuf : s.applyReset.ibuf = [] := rfl
@[simp] theorem applyReset_obuf : s.applyReset.obuf = [] := rfl
@[simp] theorem applyReset_cfg : s.applyReset.cfg = s.cfg := rfl
@[simp] theorem applyReset_pending : s.applyReset.pending = s.pending := rfl
@[simp] theorem applyReset_responses : s.applyReset.responses = s.responses := rfl

/-! ### deliver (R78, R81) -/

@[simp] theorem deliver_crc (o : Bool) (r : List Byte) : (s.deliver o r).crc = s.crc := by
  cases o <;> rfl
@[simp] theorem deliver_res (o : Bool) (r : List Byte) : (s.deliver o r).res = s.res := by
  cases o <;> rfl
@[simp] theorem deliver_width (o : Bool) (r : List Byte) : (s.deliver o r).width = s.width := by
  cases o <;> rfl
@[simp] theorem deliver_height (o : Bool) (r : List Byte) : (s.deliver o r).height = s.height := by
  cases o <;> rfl
@[simp] theorem deliver_ptr (o : Bool) (r : List Byte) : (s.deliver o r).ptr = s.ptr := by
  cases o <;> rfl
@[simp] theorem deliver_lastErr (o : Bool) (r : List Byte) : (s.deliver o r).lastErr = s.lastErr := by
  cases o <;> rfl
@[simp] theorem deliver_sticky (o : Bool) (r : List Byte) : (s.deliver o r).sticky = s.sticky := by
  cases o <;> rfl
@[simp] theorem deliver_ibuf (o : Bool) (r : List Byte) : (s.deliver o r).ibuf = if o then s.ibuf.writeFromZero r else s.ibuf := by
  cases o <;> rfl
@[simp] theorem deliver_obuf (o : Bool) (r : List Byte) : (s.deliver o r).obuf = if o then s.obuf else s.obuf.replaceAll r := by
  cases o <;> rfl
@[simp] theorem deliver_cfg (o : Bool) (r : List Byte) : (s.deliver o r).cfg = s.cfg := by
  cases o <;> rfl
@[simp] theorem deliver_pending (o : Bool) (r : List Byte) : (s.deliver o r).pending = s.pending := by
  cases o <;> rfl
@[simp] theorem deliver_responses (o : Bool) (r : List Byte) : (s.deliver o r).responses = s.responses := by
  cases o <;> rfl

end Sys2Proof.Machine
end

