-- ==== Sys2Proof/Laws/Exec.lean ====
section
/-! SUPPORT. What each shared operation can do, said once: the end of a command, the register port, one event, one step.
Later proofs cite these and unfold nothing. -/

namespace Sys2Proof.Machine

/-! ### The two ends of a command -/

theorem done_eq (s : State) : done s = .next s.succeed := rfl

theorem fail_eq (s : State) (e : CmdError) : fail s e = .next (s.raise e) := rfl

@[simp] theorem CmdError.lastErr_toNat (e : CmdError) : e.lastErr.toNat = e.code := by cases e <;> rfl

theorem CmdError.lastErr_ne_zero (e : CmdError) : e.lastErr ≠ 0 := by cases e <;> decide

theorem CmdError.stickyFlag_getLsbD (e : CmdError) (j : Nat) (hj : j < 4) :
    e.stickyFlag.getLsbD j = decide (7 + e.code = 8 + j) := by
  interval_cases j <;> cases e <;> rfl

/-- A part of R10's table that has the very same value is the same. -/
theorem Part.same_refl (p : Part) (s : State) : p.Same s s := by
  cases p <;> simp [Part.Same]

/-- How a frame is shown: each part is written, or is the very same. -/
theorem keepsAllBut_of {l : List Part} {s t : State} (hcfg : t.cfg = s.cfg) (hp : t.pending = s.pending)
    (hr : t.responses = s.responses)
    (h : (Part.crc ∈ l ∨ t.crc = s.crc) ∧ (Part.res ∈ l ∨ t.res = s.res) ∧ (Part.width ∈ l ∨ t.width = s.width) ∧
      (Part.height ∈ l ∨ t.height = s.height) ∧ (Part.ptr ∈ l ∨ t.ptr = s.ptr) ∧
      (Part.lastErr ∈ l ∨ t.lastErr = s.lastErr) ∧ (Part.sticky ∈ l ∨ t.sticky = s.sticky) ∧
      (Part.ibuf ∈ l ∨ t.ibuf = s.ibuf) ∧ (Part.obuf ∈ l ∨ t.obuf = s.obuf)) : KeepsAllBut l s t := by
  refine ⟨fun p hpl => ?_, hcfg, hp, hr⟩
  cases p <;> simp_all [Part.Same]

theorem keepsAllBut_refl (l : List Part) (s : State) : KeepsAllBut l s s :=
  ⟨fun p _ => p.same_refl s, rfl, rfl, rfl⟩

/-- The shared error operation has the effect R103 gives it. -/
theorem raise_raises (s : State) (e : CmdError) : Raises e s (s.raise e) := by
  refine ⟨by simp, fun j hj => by simp [CmdError.stickyFlag_getLsbD e j hj], ?_, by simp [HostSame]⟩
  intro p hp
  cases p <;> simp_all [Part.Same]

/-! ### The meanings, each as one equation of next states -/

theorem execPush_next (b : Byte) (s : State) :
    execPush b s = .next (if s.ibuf.length = s.cfg.bufSize then s.raise .bufferFull
      else (s.setIbuf (s.ibuf.append b)).succeed) := by
  simp only [execPush, Memory.full_iff, fail_eq, done_eq]
  split <;> rfl

theorem execFrame_next (opcode : Byte) (p : Bool) (s : State) :
    execFrame opcode p s = .next (if 255 < s.ibuf.length then s.raise .payloadTooLarge
      else ((s.setObuf (frame s.cfg s.ibuf opcode p)).setCrc (checksum s.cfg s.ibuf)).succeed) := by
  simp only [execFrame, fail_eq, done_eq, Memory.replaceAll_eq]
  split <;> rfl

theorem geometryFits_iff (s : State) :
    s.geometryFits = true ↔ s.width.toNat % 8 = 0 ∧ s.width.toNat / 8 * s.height.toNat = s.ibuf.length := by
  simp [State.geometryFits]

theorem execFlip_next (h v o : Bool) (s : State) :
    execFlip h v o s = .next (if h = false ∧ v = false then (s.deliver o s.ibuf).succeed
      else if s.geometryFits = true then (s.deliver o (flipBitmap s.ibuf s.rowBytes s.height.toNat h v)).succeed
      else s.raise .badGeometry) := by
  by_cases hg : s.geometryFits = true <;> cases h <;> cases v <;>
    simp [execFlip, State.payload, fail_eq, done_eq, hg]

theorem execClr_next (i o e : Bool) (s : State) :
    execClr i o e s = .next { s with
      ibuf := if i then [] else s.ibuf, obuf := if o then [] else s.obuf,
      sticky := if e then 0 else s.sticky, lastErr := 0 } := by
  cases i <;> cases o <;> cases e <;> rfl

/-- R107: every command of every state has a next state; no meaning faults or refuses. -/
theorem exec_next (i : Instr) (s : State) : ∃ t, exec i s = .next t := by
  cases i with
  | nop => exact ⟨_, rfl⟩
  | frame opcode p => exact ⟨_, execFrame_next opcode p s⟩
  | crci => exact ⟨_, rfl⟩
  | crcb b => exact ⟨_, rfl⟩
  | crcbuf => exact ⟨_, rfl⟩
  | revb b => exact ⟨_, rfl⟩
  | revbuf o => exact ⟨_, rfl⟩
  | flip h v o => exact ⟨_, execFlip_next h v o s⟩
  | push b => exact ⟨_, execPush_next b s⟩
  | clr i o e => exact ⟨_, execClr_next i o e s⟩

/-! ### One event and one step -/

theorem PortReg.ofNum_zero_iff (a : RegNum) : PortReg.ofNum a = .cmd ↔ a = 0 := by
  revert a; decide

/-- A write to another register than `CMD` leaves all but three registers alone, and those as R34 says. -/
theorem writePlain_cases (s : State) (r : PortReg) (w : Word) :
    s.writePlain r w = s ∨ (r = .width ∧ s.writePlain r w = s.setWidth w) ∨
      (r = .height ∧ s.writePlain r w = s.setHeight w) ∨ (r = .ptr ∧ s.writePlain r w = s.setPtr w) := by
  cases r <;> simp [State.writePlain]

theorem runCommand_cases (w : Word) (s : State) :
    (∃ i, decode w = .ok i ∧ runCommand w s = exec i s) ∨
      ((∃ r, decode w = .error r) ∧ runCommand w s = .next (s.raise .illegalCommand)) := by
  simp only [runCommand, fail_eq]
  split
  · exact .inl ⟨_, ‹_›, rfl⟩
  · exact .inr ⟨⟨_, ‹_›⟩, rfl⟩

/-- What one step does: nothing when no event waits, else its event, in one of four ways. -/
theorem step_cases (s : State) :
    (s.pending = [] ∧ step s = .next s) ∨
    ∃ e rest, s.pending = e :: rest ∧
      ((∃ a, e = .read a ∧ step s = .next ((s.setPending rest).respond (s.readReg a))) ∨
       (∃ w, e = .write 0 w ∧ step s = runCommand w ((s.setPending rest).respond 0)) ∨
       (∃ a w, a ≠ 0 ∧ e = .write a w ∧
         step s = .next (((s.setPending rest).respond 0).writePlain (PortReg.ofNum a) w)) ∨
       (e = .reset ∧ step s = .next (s.setPending rest).applyReset)) := by
  rcases hp : s.pending with _ | ⟨e, rest⟩
  · exact .inl ⟨rfl, by simp [step, hp]⟩
  · refine .inr ⟨e, rest, rfl, ?_⟩
    cases e with
    | read a => exact .inl ⟨a, rfl, by simp only [step, hp, perform]; rfl⟩
    | write a w =>
      by_cases ha : a = 0
      · subst ha
        exact .inr (.inl ⟨w, rfl, by simp only [step, hp, perform, writeReg]; rfl⟩)
      · refine .inr (.inr (.inl ⟨a, w, ha, rfl, ?_⟩))
        simp only [step, hp, perform, writeReg, if_neg (fun h => ha ((PortReg.ofNum_zero_iff a).1 h))]
    | reset => exact .inr (.inr (.inr ⟨rfl, by simp [step, hp, perform]⟩))

/-! ### Runs -/

theorem run_zero (s : State) : Sys2Proof.core.run 0 s = .next s := rfl

/-- On any machine, a run of one step more after a step with a next state. -/
theorem coreRun_succ (M : Host.Core) {s t : M.State} (h : M.step s = .next t) (k : Nat) :
    M.run (k + 1) s = M.run k t := by
  simp only [Host.Core.run, h]

/-- A run of PCODEC of one step more, after a step with a next state. -/
theorem run_succ_of_next {s t : State} (h : step s = .next t) (k : Nat) :
    Sys2Proof.core.run (k + 1) s = Sys2Proof.core.run k t :=
  coreRun_succ Sys2Proof.core h k

end Sys2Proof.Machine
end

