-- ==== Sys2Proof/Laws/PerInstr.lean ====
section
/-! SUPPORT. Facts about every command as syntax, one lemma per constructor. Family `EncodesLegally`: the fields of the
word a command is encoded as pass the three checks of R50, and its operation number is the one R47 gives its row. -/

namespace Sys2Proof.Laws.EncodesLegally

/-- R47: the number `op` of a command. -/
def opNumber : Instr → Nat
  | .nop => 0x0
  | .frame _ _ => 0x1
  | .crci => 0x2
  | .crcb _ => 0x3
  | .crcbuf => 0x4
  | .revb _ => 0x5
  | .revbuf _ => 0x6
  | .flip _ _ _ => 0x7
  | .push _ => 0x8
  | .clr _ _ _ => 0x9

def Statement (i : Instr) : Prop :=
  (encodeFields i).wellFormed = true ∧ (encodeFields i).op.toNat = opNumber i

theorem nop : Statement .nop := by simp [Statement]; decide
theorem frame (opcode : Byte) (p : Bool) : Statement (.frame opcode p) := by
  cases p <;> exact ⟨by simp [encodeFields, Fields.wellFormed, Fields.opReserved, Fields.immUnused, Fields.unlistedModSet, Fields.listedMods, modBits], rfl⟩
theorem crci : Statement .crci := by simp [Statement]; decide
theorem crcb (b : Byte) : Statement (.crcb b) :=
  ⟨by simp [encodeFields, Fields.wellFormed, Fields.opReserved, Fields.immUnused, Fields.unlistedModSet, Fields.listedMods], rfl⟩
theorem crcbuf : Statement .crcbuf := by simp [Statement]; decide
theorem revb (b : Byte) : Statement (.revb b) :=
  ⟨by simp [encodeFields, Fields.wellFormed, Fields.opReserved, Fields.immUnused, Fields.unlistedModSet, Fields.listedMods], rfl⟩
theorem revbuf (o : Bool) : Statement (.revbuf o) := by cases o <;> exact ⟨by decide, rfl⟩
theorem flip (h v o : Bool) : Statement (.flip h v o) := by
  cases h <;> cases v <;> cases o <;> exact ⟨by decide, rfl⟩
theorem push (b : Byte) : Statement (.push b) :=
  ⟨by simp [encodeFields, Fields.wellFormed, Fields.opReserved, Fields.immUnused, Fields.unlistedModSet, Fields.listedMods], rfl⟩
theorem clr (i o e : Bool) : Statement (.clr i o e) := by
  cases i <;> cases o <;> cases e <;> exact ⟨by decide, rfl⟩

end Sys2Proof.Laws.EncodesLegally
end

