-- ==== Sys2Proof/Tests/Slice0.lean ====
section
/-! SUPPORT. The model's own tests. Expected results are the spec's: its encodings (30_encoding.md), its vectors
(95_test_vectors.md, named by their ids) and its worked examples. Then one witness for each statement with hypotheses. -/

namespace Sys2Proof.Tests

open Sys2Proof Sys2Proof.Machine

/-- A machine right after reset with the smallest capacity, 264, and the default table. -/
def s0 : State := State.resetWith ⟨0, t07⟩

/-- `s0` with a payload in IBUF. -/
def payload (bs : List Byte) : State := { s0 with ibuf := bs }

/-- `s0` with a bitmap in IBUF and its geometry. -/
def bitmap (w h : Word) (bs : List Byte) : State := { s0 with ibuf := bs, width := w, height := h }

/-- The bitmap of vectors B7 to B12. -/
def picture : State := bitmap 16 3 [0x01, 0x02, 0x10, 0x20, 0xC0, 0xFF]

/-- `s` with one event of the host waiting. -/
def asked (s : State) (e : HostEvent) : State := { s with pending := [e] }

/-- The outcome is a next state of which `p` holds. -/
def gives (o : Host.Outcome State Fault Refusal) (p : State → Bool) : Bool :=
  match o with
  | .next t => p t
  | .fault _ => false
  | .refused _ => false

/-- The register `STATUS` as the host reads it. -/
def status (s : State) : Word := s.readReg 1

/-! ### Decoding: one word or more of each command, written out bit by bit (R46, R47) -/

theorem test_decode_nop : decode 0b0000000000000000#16 = .ok .nop := by decide
theorem test_decode_frame : decode 0b1010111000010000#16 = .ok (.frame 0xAE false) := by decide
theorem test_decode_frame_p : decode 0b1111111100010001#16 = .ok (.frame 0xFF true) := by decide
theorem test_decode_crci : decode 0b0000000000100000#16 = .ok .crci := by decide
theorem test_decode_crcb : decode 0b0111000000110000#16 = .ok (.crcb 0x70) := by decide
theorem test_decode_crcbuf : decode 0b0000000001000000#16 = .ok .crcbuf := by decide
theorem test_decode_revb : decode 0b0001001001010000#16 = .ok (.revb 0x12) := by decide
theorem test_decode_revbuf : decode 0b0000000001100000#16 = .ok (.revbuf false) := by decide
theorem test_decode_revbuf_o : decode 0b0000000001101000#16 = .ok (.revbuf true) := by decide
theorem test_decode_flip_h : decode 0b0000000001110001#16 = .ok (.flip true false false) := by decide
theorem test_decode_flip_v : decode 0b0000000001110010#16 = .ok (.flip false true false) := by decide
theorem test_decode_flip_o : decode 0b0000000001111000#16 = .ok (.flip false false true) := by decide
theorem test_decode_push : decode 0b1111000010000000#16 = .ok (.push 0xF0) := by decide
theorem test_decode_clr_i : decode 0b0000000010010001#16 = .ok (.clr true false false) := by decide
theorem test_decode_clr_o : decode 0b0000000010010010#16 = .ok (.clr false true false) := by decide
theorem test_decode_clr_e : decode 0b0000000010010100#16 = .ok (.clr false false true) := by decide

/-- The nearest illegal neighbours of section 2.6, and the words of vectors C6 to C9, are refused. -/
theorem test_decode_refuses_neighbours :
    ([0x0001, 0x0012, 0x0021, 0x0031, 0x0041, 0x0051, 0x0061, 0x0160, 0x0074, 0x0170] ++
      [0x0081, 0x0098, 0x0190, 0x00A0, 0xFFFF, 0x0100, 0xAE12, 0x0120]).all
      (fun n => (decodeTableWord 16 n).isNone) = true := by decide

/-! ### WellFormed: an ill-formed term for each of R50's checks -/

theorem test_wellFormed_accepts : (⟨0xAE, 0x1, 0x1⟩ : Fields).wellFormed = true := by decide

/-- op 0xA, and op 0xF. -/
theorem test_wellFormed_refuses_reserved_op :
    (⟨0x00, 0xA, 0x0⟩ : Fields).opReserved = true ∧ (⟨0x00, 0xA, 0x0⟩ : Fields).wellFormed = false ∧
      (⟨0xFF, 0xF, 0xF⟩ : Fields).wellFormed = false := by decide

/-- NOP with imm8 = 1 (vector C9). -/
theorem test_wellFormed_refuses_unused_imm8 :
    (⟨0x01, 0x0, 0x0⟩ : Fields).immUnused = true ∧ (⟨0x01, 0x0, 0x0⟩ : Fields).wellFormed = false := by decide

/-- FLIP with mod bit 2 (vector B24), FRAME with mod bit 1 (F10), CLR with mod bit 3 (C6), CRCI with mod bit 0 (K26). -/
theorem test_wellFormed_refuses_unlisted_mod :
    (⟨0x00, 0x7, 0x4⟩ : Fields).unlistedModSet = true ∧ (⟨0x00, 0x7, 0x4⟩ : Fields).wellFormed = false ∧
      (⟨0xAE, 0x1, 0x2⟩ : Fields).wellFormed = false ∧ (⟨0x00, 0x9, 0x8⟩ : Fields).wellFormed = false ∧
      (⟨0x00, 0x2, 0x1⟩ : Fields).wellFormed = false := by decide

/-! ### One step of each command -/

/-- C4: NOP clears `LASTERR` and keeps the sticky flag. -/
theorem test_nop_C4 :
    gives (exec .nop { s0 with lastErr := 2, sticky := 0b0010 }) (fun t => status t = 0x0200) = true := by decide

/-- F2: with the byte 0x12 in front. -/
theorem test_frame_F2 :
    gives (exec (.frame 0xAE true) (payload [0x10])) (fun t =>
      t.obuf = [0x12, 0x51, 0x78, 0xAE, 0x00, 0x01, 0x00, 0x10, 0x70, 0xFF] ∧ t.crc = 0x70 ∧ t.ibuf = [0x10]) = true := by
  decide +kernel

/-- F7: 256 bytes are too many; the low byte of that length is 0. -/
theorem test_frame_F7 :
    gives (exec (.frame 0x55 false) { payload (List.replicate 256 0x01) with obuf := [0xAA], crc := 0x5A }) (fun t =>
      status t = 0x0202 ∧ t.obuf = [0xAA] ∧ t.crc = 0x5A) = true := by decide +kernel

/-- K20. -/
theorem test_crci_K20 : gives (exec .crci { s0 with crc := 0x5A }) (fun t => t.crc = 0x00) = true := by decide

/-- K21. -/
theorem test_crcb_K21 : gives (exec (.crcb 0x10) s0) (fun t => t.crc = 0x70) = true := by decide +kernel

/-- K22: the index is the operand xor the old `CRC`. -/
theorem test_crcb_K22 : gives (exec (.crcb 0x70) { s0 with crc := 0x70 }) (fun t => t.crc = 0x00) = true := by
  decide +kernel

/-- K24: the old `CRC` is ignored. -/
theorem test_crcbuf_K24 :
    gives (exec .crcbuf { payload [0x01, 0x02, 0x03] with crc := 0x99 }) (fun t =>
      t.crc = 0x48 ∧ t.ibuf = [0x01, 0x02, 0x03]) = true := by decide +kernel

/-- B1. -/
theorem test_revb_B1 : gives (exec (.revb 0x12) s0) (fun t => t.res = 0x48) = true := by decide

/-- B3. -/
theorem test_revbuf_B3 :
    gives (exec (.revbuf false) (payload [0x01, 0x02, 0xF0])) (fun t =>
      t.obuf = [0x80, 0x40, 0x0F] ∧ t.ibuf = [0x01, 0x02, 0xF0]) = true := by decide

/-- B4. -/
theorem test_revbuf_B4 :
    gives (exec (.revbuf true) { payload [0x01, 0x02, 0xF0] with obuf := [0xAA] }) (fun t =>
      t.ibuf = [0x80, 0x40, 0x0F] ∧ t.obuf = [0xAA]) = true := by decide

/-- B7. -/
theorem test_flip_B7 :
    gives (exec (.flip true false false) picture) (fun t =>
      t.obuf = [0x40, 0x80, 0x04, 0x08, 0xFF, 0x03] ∧ t.ibuf = picture.ibuf) = true := by decide

/-- B12: both flips in place. -/
theorem test_flip_B12 :
    gives (exec (.flip true true true) { picture with obuf := [0xAA] }) (fun t =>
      t.ibuf = [0xFF, 0x03, 0x04, 0x08, 0x40, 0x80] ∧ t.obuf = [0xAA]) = true := by decide

/-- B15, B16, B22 fail; B17, with neither flip, checks nothing. -/
theorem test_flip_geometry :
    gives (exec (.flip true false false) (bitmap 12 1 [0x01, 0x02])) (fun t => status t = 0x0403 ∧ t.obuf = []) = true ∧
    gives (exec (.flip false true false) (bitmap 16 2 [0x01, 0x02, 0x03])) (fun t => status t = 0x0403) = true ∧
    gives (exec (.flip true false false) (bitmap 0x0800 0x0100 [])) (fun t => status t = 0x0403) = true ∧
    gives (exec (.flip false false false) (bitmap 16 2 [0x01, 0x02, 0x03])) (fun t =>
      status t = 0x0000 ∧ t.obuf = [0x01, 0x02, 0x03]) = true := by decide

/-- C1, with a byte already there. -/
theorem test_push_C1 :
    gives (exec (.push 0x10) (payload [0x20])) (fun t => t.ibuf = [0x20, 0x10] ∧ status t = 0x0000) = true := by decide

/-- C2: the buffer is full at 264 bytes. -/
theorem test_push_C2 :
    gives (exec (.push 0x00) (payload (List.replicate 264 0xFF))) (fun t =>
      t.ibuf.length = 264 ∧ status t = 0x0804) = true := by decide +kernel

/-- C3. -/
theorem test_clr_C3 :
    gives (exec (.clr true false true) { payload [1, 2, 3] with obuf := List.replicate 11 0x55, sticky := 0b0100 }) (fun t =>
      t.ibuf = [] ∧ t.obuf.length = 11 ∧ status t = 0x0000) = true := by decide

/-- C5: CLR with no modifier. -/
theorem test_clr_C5 :
    gives (exec (.clr false false false) { payload [1] with obuf := [2], lastErr := 2, sticky := 0b0010 }) (fun t =>
      t.ibuf = [1] ∧ t.obuf = [2] ∧ status t = 0x0200) = true := by decide

/-! ### The register port and reset -/

/-- G1: what each register reads right after reset. -/
theorem test_reads_G1 :
    ((List.range 16).all fun k => s0.readReg (BitVec.ofNat 4 k) = if k = 9 ∨ k = 10 then 0x8000 else 0x0000) = true := by
  decide

/-- G5, G6, G7: the window at the last byte, one further, and far beyond. -/
theorem test_reads_G5_G6_G7 :
    { s0 with obuf := [0x51, 0x78, 0x00], ptr := 2 }.readReg 10 = 0x0000 ∧
      { s0 with obuf := [0x51, 0x78, 0x00], ptr := 3 }.readReg 10 = 0x8000 ∧
      { s0 with obuf := [0x51, 0x78, 0x00], ptr := 0xFFFF }.readReg 10 = 0x8000 := by decide

/-- G3, G4: writes that change nothing, and G2, one that does; each answers 0x0000. -/
theorem test_writes_G2_G3_G4 :
    gives (step (asked { s0 with crc := 0x70 } (.write 2 0x0000))) (fun t => t.crc = 0x70 ∧ t.responses = [0x0000]) = true ∧
    gives (step (asked s0 (.write 13 0x1234))) (fun t => t.readReg 13 = 0x0000 ∧ status t = 0x0000) = true ∧
    gives (step (asked s0 (.write 4 0xFFFF))) (fun t => t.readReg 4 = 0xFFFF ∧ status t = 0x0000) = true := by decide

/-- C7: an illegal word through the port. -/
theorem test_illegal_C7 :
    gives (step (asked (payload [1]) (.write 0 0x00A0))) (fun t => status t = 0x0101 ∧ t.ibuf = [1]) = true := by decide

/-- Z1. -/
def busy : State :=
  { s0 with crc := 0x48, res := 0x12, width := 384, height := 10, ptr := 7, lastErr := 3, sticky := 0xF,
            ibuf := List.replicate 20 1, obuf := List.replicate 5 2 }

theorem test_reset_Z1 :
    gives (step (asked busy .reset)) (fun t =>
      (List.range 9).all fun k => t.readReg (BitVec.ofNat 4 k) = 0x0000) = true := by decide

/-- The first step of the machine of `State.reset` runs the word placed for it: PUSH 0x10 (C1). -/
theorem test_withFetchWord_from_reset :
    gives (step (State.reset.withFetchWord 16 0x1080)) (fun t => t.ibuf = [0x10] ∧ t.pending = []) = true := by
  decide +kernel

/-! ### Witnesses: concrete states and operands that meet the hypotheses of each statement -/

theorem witness_OpMapRowNamesTheCommand :
    ⟨"FLIP", 0xFFF4#16, 0x0070#16⟩ ∈ opMap ∧ (⟨"FLIP", 0xFFF4#16, 0x0070#16⟩ : OpRow).matches 0x007B#16 = true ∧
      decode 0x007B#16 = .ok (.flip true true true) := by decide

theorem witness_IllegalWordRaisesIllegalCommand :
    (asked s0 (.write 0 0xFFFF)).pending = .write 0 0xFFFF :: [] ∧ (Fields.ofWord 0xFFFF#16).wellFormed = false := by decide

theorem witness_DegenerateFormsAreThese :
    encode .nop ∈ [0x0000#16, 0x0090#16, 0x0078#16] ∧ encode (.clr false false false) ∈ [0x0000#16, 0x0090#16, 0x0078#16] ∧
      encode (.flip false false true) ∈ [0x0000#16, 0x0090#16, 0x0078#16] ∧
      encode (.clr false false true) ∉ [0x0000#16, 0x0090#16, 0x0078#16] := by decide

theorem witness_StepRunsTheDecodedCommand :
    ((asked s0 (.write 0 0x1080)).pending = .write 0 0x1080 :: [] ∧ decode 0x1080#16 = .ok (.push 0x10)) ∧
      decodeTableWord 16 0xAE11 = some (.frame 0xAE true) := by decide

theorem witness_IdleKeepsAllState : s0.pending = [] := rfl

/-- The clauses of the read statement, each register number; the windows at the last byte and one further. -/
theorem witness_ReadAnswersTheRegisterMap :
    ((List.range 16).all fun k =>
      (asked s0 (.read (BitVec.ofNat 4 k))).pending = [.read (BitVec.ofNat 4 k)]) = true ∧
    (asked (payload (List.replicate 264 0)) (.read 6)).Inv ∧ (asked { s0 with obuf := [0x51] } (.read 7)).Inv ∧
    { payload [0x51, 0x78] with ptr := 1 }.ibuf.read 1 = some 0x78#8 ∧
    (payload [0x51, 0x78]).ibuf.length ≤ (2 : Nat) ∧
    { s0 with obuf := [0x51, 0x78], ptr := 1 }.obuf.read 1 = some 0x78#8 ∧
    { s0 with obuf := [0x51, 0x78], ptr := 2 }.obuf.length ≤ (2#16).toNat ∧
    11 ≤ (11#4).toNat ∧ 11 ≤ (15#4).toNat ∧ ¬ 11 ≤ (10#4).toNat := by decide +kernel

/-- The clauses of the write statement: a legal word, an illegal one, each writable register, and the others. -/
theorem witness_WriteReachesOnlyItsRegister :
    ((List.range 16).all fun k =>
      (asked s0 (.write (BitVec.ofNat 4 k) 0x0090)).pending = [.write (BitVec.ofNat 4 k) 0x0090]) = true ∧
    decode 0x0090#16 = .ok (.clr false false false) ∧ (decodeTableWord 16 0x0098).isNone = true ∧
    (1#4 ≠ 0 ∧ 1#4 ≠ 4 ∧ 1#4 ≠ 5 ∧ 1#4 ≠ 8) ∧ (15#4 ≠ 0 ∧ 15#4 ≠ 4 ∧ 15#4 ≠ 5 ∧ 15#4 ≠ 8) := by decide

/-- The last length with room, and the full one. -/
theorem witness_PushAppendsOneByte :
    (payload (List.replicate 263 0)).ibuf.length ≠ (payload (List.replicate 263 0)).cfg.bufSize ∧
      (payload (List.replicate 264 0)).ibuf.length = (payload (List.replicate 264 0)).cfg.bufSize := by decide +kernel

/-- The longest payload, and one byte more. -/
theorem witness_FrameBuildsTheWireForm :
    (payload (List.replicate 255 0)).ibuf.length ≤ 255 ∧ 255 < (payload (List.replicate 256 0)).ibuf.length := by
  decide +kernel

/-- A geometry that fits (with its last row and column), the two empty ones, and each way not to fit. -/
theorem witness_FlipMovesEveryByte :
    (picture.width.toNat % 8 = 0 ∧ picture.width.toNat / 8 * picture.height.toNat = picture.ibuf.length ∧
      2 < picture.height.toNat ∧ 1 < picture.width.toNat / 8 ∧ (true || false) = true) ∧
    (let s := bitmap 0 7 []; s.width.toNat % 8 = 0 ∧ s.width.toNat / 8 * s.height.toNat = s.ibuf.length) ∧
    (let s := bitmap 8 0 []; s.width.toNat % 8 = 0 ∧ s.width.toNat / 8 * s.height.toNat = s.ibuf.length) ∧
    (let s := bitmap 12 1 [1, 2]; s.width.toNat % 8 ≠ 0) ∧
    (let s := bitmap 16 2 [1, 2, 3]; s.width.toNat / 8 * s.height.toNat ≠ s.ibuf.length) ∧
    (let s := bitmap 0x0800 0x0100 []; s.width.toNat / 8 * s.height.toNat ≠ s.ibuf.length) := by decide

theorem witness_CommandsWriteOnlyTheirSpaces : ∃ t, exec (.revb 0x12) busy = .next t := ⟨_, rfl⟩

theorem witness_CommandSucceedsOrRaisesPrecisely : (asked busy (.write 0 0x0071)).pending = .write 0 0x0071 :: [] := rfl

theorem witness_ErrorsComeFromTheirCauses :
    gives (exec (.frame 0xA2 false) (payload (List.replicate 256 0))) (fun t => t.lastErr ≠ 0#4) = true ∧
    gives (exec (.flip true false false) (bitmap 12 1 [1, 2])) (fun t => t.lastErr ≠ 0#4) = true ∧
    gives (exec (.push 0) (payload (List.replicate 264 0))) (fun t => t.lastErr ≠ 0#4) = true := by decide +kernel

theorem witness_OnlyCommandsChangeStatus :
    (asked busy (.write 4 9)).pending = .write 4 9 :: [] ∧ (∃ t, step (asked busy (.write 4 9)) = .next t) ∧
      (HostEvent.write 4 9).isCommand = false ∧ HostEvent.write 4 9 ≠ .reset := ⟨rfl, ⟨_, rfl⟩, by decide, by decide⟩

theorem witness_StickyFlagsPersist :
    (∃ t, step (asked busy .reset) = .next t ∧ busy.sticky.getLsbD 0 = true ∧ t.sticky.getLsbD 0 = false) ∧
    (∃ t, step (asked busy (.write 0 0x0094)) = .next t ∧ busy.sticky.getLsbD 3 = true ∧ t.sticky.getLsbD 3 = false) :=
  ⟨⟨_, rfl, by decide, by decide⟩, ⟨_, rfl, by decide, by decide⟩⟩

/-- Every event that may change `CRC` does so from some state: reset, CRCI, CRCB, CRCBUF, FRAME. -/
theorem witness_CrcChangesOnlyByItsCommands :
    ([.reset, .write 0 0x0020, .write 0 0x1030, .write 0 0x0040, .write 0 0xAE10] : List HostEvent).all (fun e =>
      gives (step (asked busy e)) fun t => t.crc ≠ busy.crc) = true := by decide +kernel

theorem witness_DataRegistersChangeOnlyByTheirWriters :
    gives (step (asked busy (.write 0 0x0150))) (fun t => t.res ≠ busy.res) = true ∧
    gives (step (asked busy (.write 4 1))) (fun t => t.width ≠ busy.width) = true ∧
    gives (step (asked busy (.write 5 1))) (fun t => t.height ≠ busy.height) = true ∧
    gives (step (asked busy (.write 8 1))) (fun t => t.ptr ≠ busy.ptr) = true := by decide

/-- Each clause: PUSH, CLR.I, reset for `ILEN`; FRAME, FRAME.P, REVBUF, FLIP, CLR.O, reset for `OLEN`. -/
theorem witness_LengthsChangeOnlyAsListed :
    ([.write 0 0x1080, .write 0 0x0091, .reset] : List HostEvent).all (fun e =>
      gives (step (asked busy e)) fun t => t.ibuf.length ≠ busy.ibuf.length) = true ∧
    ([.write 0 0xAE10, .write 0 0xAE11, .write 0 0x0060, .write 0 0x0070, .write 0 0x0092, .reset] : List HostEvent).all
      (fun e => gives (step (asked busy e)) fun t => t.obuf.length ≠ busy.obuf.length) = true := by decide +kernel

/-- For `ParametersNeverChange` and `StepKeepsTheInvariant`: a state with the invariant, an error recorded, and a step. -/
theorem witness_StepKeepsTheInvariant : (asked busy (.write 0 0x0071)).Inv ∧ ∃ t, step (asked busy (.write 0 0x0071)) = .next t :=
  ⟨by decide +kernel, ⟨_, rfl⟩⟩

theorem witness_admissible_parameters : (⟨0, t07⟩ : Config).Admissible ∧ (⟨65271, t07⟩ : Config).Admissible := by decide +kernel

theorem witness_EveryReachableStateHasTheInvariant :
    (⟨0, t07⟩ : Config).Admissible ∧
      ∃ t, Sys2Proof.core.run 1 ((State.resetWith ⟨0, t07⟩).taken [.write 0 0xFFFF]) = .next t ∧ 1 ≤ t.lastErr.toNat :=
  ⟨by decide +kernel, ⟨_, rfl, by decide⟩⟩

theorem witness_ResetRestoresEveryItem : (asked busy .reset).pending = .reset :: [] := rfl

theorem witness_ChecksumFollowsTheRecurrence : ([0x01, 0x02, 0x03] : List Byte)[2]? = some 0x03#8 := rfl

/-- For the statements about a table equal to `T07`, and about two parameter sets with one table. -/
theorem witness_default_table : (⟨0, t07⟩ : Config).crcTable = t07 ∧ (⟨1, t07⟩ : Config).crcTable = (⟨0, t07⟩ : Config).crcTable :=
  ⟨rfl, rfl⟩

theorem witness_ReverseBitsIsTheMirror : (0 : Nat) < 8 ∧ (7 : Nat) < 8 := by decide

/-- The corner pixels of a bitmap two bytes wide and three rows high. -/
theorem witness_FlipMirrorsThePicture :
    picture.ibuf.length = 2 * 3 ∧ 0 < 8 * 2 ∧ 15 < 8 * 2 ∧ 0 < 3 ∧ 2 < 3 := by decide

theorem witness_RevbufMirrorsGroupsOfEight : 15 < 8 * 2 := by decide

theorem witness_FlipLaws :
    picture.ibuf.length = 2 * 3 ∧ ([] : List Byte).length = 0 * 7 ∧ (2 < 3 ∧ 1 < 2) ∧
      ([0xFF, 0xFF] : List Byte).length = 2 * 1 ∧ (∀ y ∈ ([0xFF, 0xFF] : List Byte), y = 0xFF#8) := by decide

theorem witness_OverwriteTwiceRestores :
    (∃ t, exec (.revbuf true) picture = .next t ∧ t.lastErr = 0#4) ∧
    (∃ t, exec (.flip true false true) picture = .next t ∧ t.lastErr = 0#4) :=
  ⟨⟨_, rfl, rfl⟩, ⟨_, rfl, rfl⟩⟩

end Sys2Proof.Tests
end

/-! ## The register port: reads and writes (20_memory.md) -/

/-! ### One step, by the event that waits -/

section
namespace Sys2Proof.Machine

variable {s : State} {a : RegNum} {w : Word} {rest : List HostEvent}

theorem step_of_pending {e : HostEvent} (h : s.pending = e :: rest) : step s = perform e (s.setPending rest) := by
  simp only [step, h]

/-- R33: the value is that of the state before the read. -/
theorem step_of_read (h : s.pending = .read a :: rest) :
    step s = .next ((s.setPending rest).respond (s.readReg a)) :=
  step_of_pending h

/-- R45: a write to `CMD` runs its word. -/
theorem step_of_write_cmd (h : s.pending = .write 0 w :: rest) : step s = runCommand w (s.accepted rest) :=
  step_of_pending h

/-- R34: a write to any other number is a plain one. -/
theorem step_of_write_plain (h : s.pending = .write a w :: rest) (ha : a ≠ 0) :
    step s = .next ((s.accepted rest).writePlain (PortReg.ofNum a) w) := by
  have hcmd : PortReg.ofNum a ≠ .cmd := mt (PortReg.ofNum_zero_iff a).1 ha
  rw [step_of_pending h, perform, writeReg, if_neg hcmd]
  rfl

end Sys2Proof.Machine
end

/-! ### Register numbers (R11) -/

section
namespace Sys2Proof.Machine

theorem PortReg.ofNum_width_iff (a : RegNum) : PortReg.ofNum a = .width ↔ a = 4 := by
  revert a; decide

theorem PortReg.ofNum_height_iff (a : RegNum) : PortReg.ofNum a = .height ↔ a = 5 := by
  revert a; decide

theorem PortReg.ofNum_ptr_iff (a : RegNum) : PortReg.ofNum a = .ptr ↔ a = 8 := by
  revert a; decide

theorem PortReg.ofNum_reserved_iff (a : RegNum) : PortReg.ofNum a = .reserved ↔ 11 ≤ a.toNat := by
  revert a; decide

end Sys2Proof.Machine
end

/-! ### The values read (R11, R15, R93) -/

section
namespace Sys2Proof

/-- R4: `BUF_SIZE` is at most 65535. -/
theorem Config.bufSize_lt (c : Config) : c.bufSize < 2 ^ 16 := by
  have := c.above.isLt
  simp only [Config.bufSize, minBufSize]
  omega

end Sys2Proof
end

section
namespace Sys2Proof.Machine

/-- R15: `STATUS` bit by bit. -/
theorem getLsbD_statusWord (sticky lastErr : BitVec 4) (i : ℕ) :
    (statusWord sticky lastErr).getLsbD i =
      if i < 4 then lastErr.getLsbD i else if i < 8 then false else sticky.getLsbD (i - 8) := by
  have hlow : (statusWord sticky lastErr).getLsbD i =
      if i < 4 then lastErr.getLsbD i else (0#4 ++ sticky ++ 0#4).getLsbD (i - 4) := BitVec.getLsbD_append
  rw [hlow, BitVec.getLsbD_append, BitVec.getLsbD_append]
  grind

/-- R15: the four fields of `STATUS`, from the lowest bit up. -/
theorem statusWord_fields (sticky lastErr : BitVec 4) :
    (statusWord sticky lastErr).extractLsb' 0 4 = lastErr ∧ (statusWord sticky lastErr).extractLsb' 4 4 = 0#4 ∧
      (statusWord sticky lastErr).extractLsb' 8 4 = sticky ∧ (statusWord sticky lastErr).extractLsb' 12 4 = 0#4 := by
  refine ⟨?_, ?_, ?_, ?_⟩ <;> ext i hi <;>
    rw [BitVec.getElem_extractLsb', getLsbD_statusWord] <;> grind

/-- A byte read over the port keeps its value (R11: `zext_16`). -/
theorem toNat_zeroExtend_byte (b : Byte) : (b.zeroExtend 16).toNat = b.toNat :=
  BitVec.toNat_setWidth_of_le (by decide)

theorem window_of_read {m : Memory} {ptr : Word} {b : Byte} (h : m.read ptr.toNat = some b) :
    (window m ptr).toNat = b.toNat := by
  simp only [window, h, toNat_zeroExtend_byte]

theorem window_of_length_le {m : Memory} {ptr : Word} (h : m.length ≤ ptr.toNat) : window m ptr = 0x8000#16 := by
  rw [window, (m.read_eq_none _).2 h]
  rfl

/-- R17: the length of a buffer in canonical form fits the 16 bits of `ILEN` and `OLEN`. -/
theorem Memory.toNat_length_of_wf {c : Config} {m : Memory} (h : m.wf c.bufSize = true) :
    (BitVec.ofNat 16 m.length).toNat = m.length := by
  have hlen : m.length < 2 ^ 16 := ((Memory.wf_iff _ _).1 h).trans_lt c.bufSize_lt
  rw [BitVec.toNat_ofNat, Nat.mod_eq_of_lt hlen]

end Sys2Proof.Machine
end

section
open Sys2Proof Sys2Proof.Machine

/-- Settles O10: each register number selects its row of R11's table, and the row's value has a lemma above. -/
theorem readAnswersTheRegisterMap : Obligations.ReadAnswersTheRegisterMap := by
  unfold Obligations.ReadAnswersTheRegisterMap
  intro s a rest h
  refine ⟨_, s.readReg a, step_of_read h, rfl, ?cmd, ?status, ?crc, ?res, ?width, ?height, ?ilen, ?olen, ?ptr,
    ?idata, ?odata, ?reserved⟩
  case reserved =>
    intro ha
    rw [State.readReg, (PortReg.ofNum_reserved_iff a).2 ha]
    rfl
  all_goals rintro rfl
  case cmd | width | height | ptr => rfl
  case status => exact statusWord_fields s.sticky s.lastErr
  case crc => exact toNat_zeroExtend_byte s.crc
  case res => exact toNat_zeroExtend_byte s.res
  case ilen =>
    rintro ⟨-, hibuf, -⟩
    exact Memory.toNat_length_of_wf hibuf
  case olen =>
    rintro ⟨-, -, hobuf, -⟩
    exact Memory.toNat_length_of_wf hobuf
  case idata | odata => exact ⟨fun _ => window_of_read, window_of_length_le⟩

end

/-! ### The effect of a write (R34, R45) -/

section
namespace Sys2Proof.Machine

/-- R45, R50: the two ends of a command word, each with its effect. -/
theorem runCommand_next (w : Word) (s : State) :
    ∃ t, runCommand w s = .next t ∧ (∀ i, decode w = .ok i → exec i s = .next t) ∧
      ((∀ i, decode w ≠ .ok i) → Raises .illegalCommand s t) := by
  obtain ⟨i, hi, hrun⟩ | ⟨⟨r, hr⟩, hrun⟩ := runCommand_cases w s
  · obtain ⟨t, ht⟩ := exec_next i s
    refine ⟨t, hrun.trans ht, fun j hj => ?_, fun hno => absurd hi (hno i)⟩
    obtain rfl : i = j := Except.ok.inj (hi.symm.trans hj)
    exact ht
  · exact ⟨_, hrun, fun i hi => by simp [hr] at hi, fun _ => raise_raises s .illegalCommand⟩

theorem setWidth_keepsAllBut (s : State) (w : Word) : KeepsAllBut [.width] s (s.setWidth w) :=
  keepsAllBut_of rfl rfl rfl (by simp)

theorem setHeight_keepsAllBut (s : State) (w : Word) : KeepsAllBut [.height] s (s.setHeight w) :=
  keepsAllBut_of rfl rfl rfl (by simp)

theorem setPtr_keepsAllBut (s : State) (w : Word) : KeepsAllBut [.ptr] s (s.setPtr w) :=
  keepsAllBut_of rfl rfl rfl (by simp)

/-- R34: a plain write to a number that is none of the three writable registers. -/
theorem writePlain_of_not_writable (s : State) {a : RegNum} (w : Word) (hwidth : a ≠ 4) (hheight : a ≠ 5)
    (hptr : a ≠ 8) : s.writePlain (PortReg.ofNum a) w = s := by
  obtain hs | ⟨hr, -⟩ | ⟨hr, -⟩ | ⟨hr, -⟩ := writePlain_cases s (PortReg.ofNum a) w
  · exact hs
  · exact absurd ((PortReg.ofNum_width_iff a).1 hr) hwidth
  · exact absurd ((PortReg.ofNum_height_iff a).1 hr) hheight
  · exact absurd ((PortReg.ofNum_ptr_iff a).1 hr) hptr

end Sys2Proof.Machine
end

section
open Sys2Proof Sys2Proof.Machine

/-- Settles O11: a write to `CMD` is a command, any other a plain write. -/
theorem writeReachesOnlyItsRegister : Obligations.WriteReachesOnlyItsRegister := by
  unfold Obligations.WriteReachesOnlyItsRegister
  intro s a w rest h
  by_cases ha : a = 0
  · subst ha
    obtain ⟨t, hrun, hlegal, hillegal⟩ := runCommand_next w (s.accepted rest)
    exact ⟨t, (step_of_write_cmd h).trans hrun, fun _ => ⟨hlegal, hillegal⟩, by simp⟩
  · refine ⟨_, step_of_write_plain h ha, fun h0 => absurd h0 ha, ?width, ?height, ?ptr, ?other⟩
    case width =>
      rintro rfl
      exact ⟨rfl, setWidth_keepsAllBut _ w⟩
    case height =>
      rintro rfl
      exact ⟨rfl, setHeight_keepsAllBut _ w⟩
    case ptr =>
      rintro rfl
      exact ⟨rfl, setPtr_keepsAllBut _ w⟩
    case other =>
      intro _ hwidth hheight hptr
      rw [writePlain_of_not_writable _ w hwidth hheight hptr]
      exact keepsAllBut_refl [] _

end

/-! ## The encoding: fields, decoder, op map (30_encoding.md) -/

/-! ### The three fields of a word (R46) -/

section
namespace Sys2Proof

variable (w : Word)

theorem Fields.toNat_imm8_ofWord : (Fields.ofWord w).imm8.toNat = w.toNat / 256 := by
  rw [Fields.ofWord, BitVec.extractLsb'_toNat, Nat.shiftRight_eq_div_pow]
  omega

theorem Fields.toNat_op_ofWord : (Fields.ofWord w).op.toNat = w.toNat / 16 % 16 := by
  rw [Fields.ofWord, BitVec.extractLsb'_toNat, Nat.shiftRight_eq_div_pow]

theorem Fields.toNat_mod_ofWord : (Fields.ofWord w).mod.toNat = w.toNat % 16 := by
  rw [Fields.ofWord, BitVec.extractLsb'_toNat, Nat.shiftRight_zero]

/-- R46: the word as a number. -/
theorem Fields.toNat_eq_ofWord :
    w.toNat = (Fields.ofWord w).imm8.toNat * 256 + (Fields.ofWord w).op.toNat * 16 + (Fields.ofWord w).mod.toNat := by
  rw [toNat_imm8_ofWord, toNat_op_ofWord, toNat_mod_ofWord]
  omega

@[simp] theorem Fields.toWord_ofWord : (Fields.ofWord w).toWord = w := by
  rw [toWord, ← toNat_eq_ofWord, BitVec.ofNat_toNat, BitVec.setWidth_eq]

theorem Fields.ofWord_inj {w v : Word} : Fields.ofWord w = Fields.ofWord v ↔ w = v :=
  (Function.LeftInverse.injective Fields.toWord_ofWord).eq_iff

/-- A modifier bit of a word is that bit of its field `mod`. -/
theorem Fields.getLsbD_mod_ofWord {k : ℕ} (hk : k < 4) : (Fields.ofWord w).mod.getLsbD k = w.getLsbD k := by
  simp [Fields.ofWord, hk]

/-- A mask acts on each field apart. -/
theorem Fields.ofWord_and (m : Word) :
    Fields.ofWord (w &&& m) =
      { imm8 := (Fields.ofWord w).imm8 &&& (Fields.ofWord m).imm8
        op := (Fields.ofWord w).op &&& (Fields.ofWord m).op
        mod := (Fields.ofWord w).mod &&& (Fields.ofWord m).mod } := by
  simp only [Fields.ofWord, BitVec.extractLsb'_and]

end Sys2Proof
end

section
open Sys2Proof

/-- Settles O1: each field is a quotient or a remainder of the word as a number. -/
theorem wordIsItsThreeFields : Obligations.WordIsItsThreeFields := by
  unfold Obligations.WordIsItsThreeFields
  exact fun w => ⟨Fields.toNat_eq_ofWord w, Fields.toWord_ofWord w⟩

end

/-! ### What the decoder accepts (R50, R51) -/

section
namespace Sys2Proof

variable {f : Fields} {i : Instr} {w : Word}

/-- R50: the three checks as propositions. -/
theorem Fields.wellFormed_iff :
    f.wellFormed = true ↔
      f.op.toNat < 0xA ∧ (f.immUnused = true → f.imm8 = 0#8) ∧ f.mod &&& ~~~f.listedMods = 0#4 := by
  simp [wellFormed, opReserved, unlistedModSet, and_assoc, imp_iff_not_or]

@[simp] theorem needNoImm8_eq_ok {d : Except DecodeReject Instr} :
    needNoImm8 f d = .ok i ↔ f.imm8 = 0#8 ∧ d = .ok i := by
  unfold needNoImm8
  split <;> simp [*]

@[simp] theorem needOnlyMods_eq_ok {listed : BitVec 4} {d : Except DecodeReject Instr} :
    needOnlyMods f listed d = .ok i ↔ f.mod &&& ~~~listed = 0#4 ∧ d = .ok i := by
  unfold needOnlyMods
  split <;> simp [*]

/-- A legal `mod` is made of its listed bits alone, the others 0. -/
theorem modBits_of_onlyListed : ∀ {mod listed : BitVec 4}, mod &&& ~~~listed = 0#4 →
    modBits (listed.getLsbD 3 && mod.getLsbD 3) (listed.getLsbD 2 && mod.getLsbD 2)
      (listed.getLsbD 1 && mod.getLsbD 1) (listed.getLsbD 0 && mod.getLsbD 0) = mod := by
  decide

@[simp] theorem modBits_false : modBits false false false false = 0#4 := rfl

theorem Fields.ext_toNat_op {f g : Fields} (himm : f.imm8 = g.imm8) (hop : f.op.toNat = g.op.toNat)
    (hmod : f.mod = g.mod) : f = g := by
  cases f; cases g
  simp_all [BitVec.toNat_inj]

/-- R51: the decoder drops no bit; the fields it accepts are those its command is encoded as. -/
theorem encodeFields_of_decodeFields (h : decodeFields f = .ok i) : encodeFields i = f := by
  unfold decodeFields at h
  split at h <;> rename_i hop <;>
    simp only [needNoImm8_eq_ok, needOnlyMods_eq_ok, Except.ok.injEq, reduceCtorEq] at h
  -- the commands that do not use `imm8` (R50)
  case h_1 | h_3 | h_5 | h_7 | h_8 | h_10 =>
    obtain ⟨himm, hmod, rfl⟩ := h
    exact Fields.ext_toNat_op himm.symm hop.symm (by simpa [encodeFields] using modBits_of_onlyListed hmod)
  -- FRAME, CRCB, REVB and PUSH, which take any `imm8` (R49)
  case h_2 | h_4 | h_6 | h_9 =>
    obtain ⟨hmod, rfl⟩ := h
    exact Fields.ext_toNat_op rfl hop.symm (by simpa [encodeFields] using modBits_of_onlyListed hmod)

theorem exists_decodeFields_of_wellFormed (h : f.wellFormed = true) : ∃ i, decodeFields f = .ok i := by
  obtain ⟨hop, himm, hmod⟩ := Fields.wellFormed_iff.1 h
  unfold Fields.immUnused at himm
  unfold Fields.listedMods at hmod
  unfold decodeFields
  split
  -- an `op` of none of the ten is reserved, against `hop`
  case h_11 => grind
  all_goals
    rename_i hk
    rw [hk] at himm hmod
  -- the commands that do not use `imm8` (R50)
  case h_1 | h_3 | h_5 | h_7 | h_8 | h_10 =>
    exact ⟨_, needNoImm8_eq_ok.2 ⟨himm rfl, needOnlyMods_eq_ok.2 ⟨hmod, rfl⟩⟩⟩
  -- FRAME, CRCB, REVB and PUSH, which take any `imm8` (R49)
  case h_2 | h_4 | h_6 | h_9 =>
    exact ⟨_, needOnlyMods_eq_ok.2 ⟨hmod, rfl⟩⟩

/-- The facts of Laws/PerInstr.lean, for every command at once. -/
theorem encodesLegally (i : Instr) : Laws.EncodesLegally.Statement i := by
  cases i with
  | nop => exact Laws.EncodesLegally.nop
  | frame opcode p => exact Laws.EncodesLegally.frame opcode p
  | crci => exact Laws.EncodesLegally.crci
  | crcb b => exact Laws.EncodesLegally.crcb b
  | crcbuf => exact Laws.EncodesLegally.crcbuf
  | revb b => exact Laws.EncodesLegally.revb b
  | revbuf o => exact Laws.EncodesLegally.revbuf o
  | flip h v o => exact Laws.EncodesLegally.flip h v o
  | push b => exact Laws.EncodesLegally.push b
  | clr i o e => exact Laws.EncodesLegally.clr i o e

theorem encodeFields_of_decode (h : decode w = .ok i) : encodeFields i = Fields.ofWord w :=
  encodeFields_of_decodeFields h

/-- R50: a word is a command exactly when its fields pass the three checks. -/
theorem exists_decode_iff : (∃ i, decode w = .ok i) ↔ (Fields.ofWord w).wellFormed = true := by
  refine ⟨fun ⟨i, hi⟩ => ?_, exists_decodeFields_of_wellFormed⟩
  rw [← encodeFields_of_decode hi]
  exact (encodesLegally i).1

theorem opNumber_of_decode (h : decode w = .ok i) :
    Laws.EncodesLegally.opNumber i = (Fields.ofWord w).op.toNat := by
  rw [← encodeFields_of_decode h]
  exact (encodesLegally i).2.symm

end Sys2Proof
end

section
open Sys2Proof Sys2Proof.Machine

/-- Settles O4: the decoder accepts exactly the words that pass R50's checks, and the write of any other ends in the
error case of a command word. -/
theorem illegalWordRaisesIllegalCommand : Obligations.IllegalWordRaisesIllegalCommand := by
  unfold Obligations.IllegalWordRaisesIllegalCommand
  refine ⟨fun w => exists_decode_iff, fun s w rest hs hw => ?_⟩
  have hno : ∀ i, decode w ≠ .ok i := fun i hi => by simp [exists_decode_iff.1 ⟨i, hi⟩] at hw
  obtain ⟨t, hrun, -, hillegal⟩ := runCommand_next w (s.accepted rest)
  exact ⟨t, (step_of_write_cmd hs).trans hrun, hillegal hno⟩

end

/-! ### The op map (R47) -/

section
namespace Sys2Proof
open Machine

variable {row : OpRow} {i : Instr} {w : Word}

/-- R47: the number `op` of a row. -/
def OpRow.op (row : OpRow) : BitVec 4 := (Fields.ofWord row.pattern).op

/-- R47, R50: how the map is made. The pattern of a row is its `op` alone, and its mask keeps the bits the three checks
of R50 look at for that `op`. -/
theorem opMap_row_fields : ∀ row ∈ opMap,
    row.op.toNat < 0xA ∧ Fields.ofWord row.pattern = { imm8 := 0#8, op := row.op, mod := 0#4 } ∧
      Fields.ofWord row.mask =
        { imm8 := if (Fields.ofWord row.pattern).immUnused then 0xFF#8 else 0x00#8
          op := 0xF#4
          mod := ~~~(Fields.ofWord row.pattern).listedMods } := by
  decide

/-- R48, R50: which of `imm8` and `mod` a word may use depends on its `op` alone. -/
theorem Fields.immUnused_congr {f g : Fields} (h : f.op = g.op) : f.immUnused = g.immUnused := by
  simp only [immUnused, h]

theorem Fields.listedMods_congr {f g : Fields} (h : f.op = g.op) : f.listedMods = g.listedMods := by
  simp only [listedMods, h]

theorem and_ite_mask_eq_zero_iff : ∀ (b : Byte) (checked : Bool),
    b &&& (if checked then 0xFF#8 else 0x00#8) = 0#8 ↔ (checked = true → b = 0#8) := by
  decide

/-- A row matches the legal words of its `op`: its mask and pattern are R50's checks. -/
theorem OpRow.matches_iff (hrow : row ∈ opMap) :
    row.matches w = true ↔ (Fields.ofWord w).op = row.op ∧ (Fields.ofWord w).wellFormed = true := by
  obtain ⟨hlt, hpattern, hmask⟩ := opMap_row_fields row hrow
  have hkeep : (Fields.ofWord w).op &&& 0xF#4 = (Fields.ofWord w).op := BitVec.and_allOnes
  rw [OpRow.matches, decide_eq_true_iff, ← Fields.ofWord_inj, Fields.ofWord_and, hpattern, hmask, Fields.mk.injEq,
    and_ite_mask_eq_zero_iff, hkeep, and_left_comm]
  refine and_congr_right fun hop => ?_
  have hsame : (Fields.ofWord w).op = (Fields.ofWord row.pattern).op := hop
  simp only [Fields.wellFormed_iff, Fields.immUnused_congr hsame, Fields.listedMods_congr hsame, hop, hlt, true_and]

/-- R47: the rows' names and their numbers say the same of a command. -/
theorem mnemonic_eq_iff (hrow : row ∈ opMap) :
    i.mnemonic = row.mnemonic ↔ Laws.EncodesLegally.opNumber i = row.op.toNat := by
  revert row
  cases i <;> simp only [Instr.mnemonic, Laws.EncodesLegally.opNumber] <;> decide

theorem opMap_op_injective : ∀ r₁ ∈ opMap, ∀ r₂ ∈ opMap, r₁.op = r₂.op → r₁ = r₂ := by
  decide

theorem getLsbD_modBits : ∀ b3 b2 b1 b0 : Bool, b3 = (modBits b3 b2 b1 b0).getLsbD 3 ∧
    b2 = (modBits b3 b2 b1 b0).getLsbD 2 ∧ b1 = (modBits b3 b2 b1 b0).getLsbD 1 ∧
    b0 = (modBits b3 b2 b1 b0).getLsbD 0 := by
  decide

/-- R46, R48: modifiers that make the field `mod` of a word are the bits of the word. -/
theorem bits_of_modBits_eq {b3 b2 b1 b0 : Bool} (h : modBits b3 b2 b1 b0 = (Fields.ofWord w).mod) :
    b3 = w.getLsbD 3 ∧ b2 = w.getLsbD 2 ∧ b1 = w.getLsbD 1 ∧ b0 = w.getLsbD 0 := by
  have hbits := getLsbD_modBits b3 b2 b1 b0
  rw [h] at hbits
  simpa only [Fields.getLsbD_mod_ofWord, Nat.reduceLT] using hbits

/-- The operands of a command are bits of the word it is encoded as. -/
theorem operandsAreBitsOf_of_encodeFields (h : encodeFields i = Fields.ofWord w) : OperandsAreBitsOf w i := by
  have himm : (encodeFields i).imm8.toNat = w.toNat / 256 := by rw [h, Fields.toNat_imm8_ofWord]
  have hmod : (encodeFields i).mod = (Fields.ofWord w).mod := by rw [h]
  cases i with
  | nop | crci | crcbuf => trivial
  | crcb b | revb b | push b => exact himm
  | frame opcode p =>
    obtain ⟨-, -, -, hp⟩ := bits_of_modBits_eq hmod
    exact ⟨himm, hp⟩
  | revbuf o =>
    obtain ⟨ho, -⟩ := bits_of_modBits_eq hmod
    exact ho
  | flip h v o =>
    obtain ⟨ho, -, hv, hh⟩ := bits_of_modBits_eq hmod
    exact ⟨hh, hv, ho⟩
  | clr i o e =>
    obtain ⟨-, he, ho, hi⟩ := bits_of_modBits_eq hmod
    exact ⟨hi, ho, he⟩

end Sys2Proof
end

section
open Sys2Proof Sys2Proof.Machine

/-- Settles O3: a row matches the legal words of its `op`, and these are the words decoded to its command. -/
theorem opMapRowNamesTheCommand : Obligations.OpMapRowNamesTheCommand := by
  unfold Obligations.OpMapRowNamesTheCommand
  refine ⟨fun w row hrow => ?rowNamesCommand, fun w r₁ r₂ h₁ h₂ hm₁ hm₂ => ?noOverlap, fun w i hi => ?operands⟩
  case rowNamesCommand =>
    rw [OpRow.matches_iff hrow, ← exists_decode_iff]
    constructor
    · rintro ⟨hop, i, hi⟩
      exact ⟨i, hi, (mnemonic_eq_iff hrow).2 (by rw [opNumber_of_decode hi, hop])⟩
    · rintro ⟨i, hi, hname⟩
      have hop := (mnemonic_eq_iff hrow).1 hname
      rw [opNumber_of_decode hi] at hop
      exact ⟨BitVec.eq_of_toNat_eq hop, i, hi⟩
  case noOverlap =>
    have hop₁ := ((OpRow.matches_iff h₁).1 hm₁).1
    have hop₂ := ((OpRow.matches_iff h₂).1 hm₂).1
    exact opMap_op_injective r₁ h₁ r₂ h₂ (hop₁.symm.trans hop₂)
  case operands => exact operandsAreBitsOf_of_encodeFields (encodeFields_of_decode hi)

end

/-! ## FRAME (40_frame.md) -/

/-! ### The word of a command (R46, R54) -/

section
namespace Sys2Proof

/-- R46: the three fields of a word made from fields are those fields. -/
@[simp] theorem Fields.ofWord_toWord (f : Fields) : Fields.ofWord f.toWord = f := by
  have himm := f.imm8.isLt
  have hop := f.op.isLt
  have hmod := f.mod.isLt
  have hword : f.toWord.toNat = f.imm8.toNat * 256 + f.op.toNat * 16 + f.mod.toNat := by
    rw [toWord, BitVec.toNat_ofNat]
    omega
  refine Fields.ext_toNat_op (BitVec.eq_of_toNat_eq ?_) ?_ (BitVec.eq_of_toNat_eq ?_)
  · rw [toNat_imm8_ofWord]
    omega
  · rw [toNat_op_ofWord]
    omega
  · rw [toNat_mod_ofWord]
    omega

theorem decodeFields_encodeFields (i : Instr) : decodeFields (encodeFields i) = .ok i := by
  cases i with
  | nop | crci | crcbuf => rfl
  | crcb b | revb b | push b => exact needOnlyMods_eq_ok.2 ⟨BitVec.zero_and, rfl⟩
  | frame opcode p => cases p <;> exact needOnlyMods_eq_ok.2 (by simp [encodeFields, modBits])
  | revbuf o => cases o <;> rfl
  | flip h v o => cases h <;> cases v <;> cases o <;> rfl
  | clr i o e => cases i <;> cases o <;> cases e <;> rfl

/-- R51, R54: the word of a command decodes to the command. -/
@[simp] theorem decode_encode (i : Instr) : decode (encode i) = .ok i := by
  rw [decode, encode, Fields.ofWord_toWord, decodeFields_encodeFields]

theorem encode_frame (opcode : Byte) (p : Bool) :
    encode (.frame opcode p) = BitVec.ofNat 16 (opcode.toNat * 256 + 0x10 + p.toNat) := by
  cases p <;> rfl

end Sys2Proof
end

/-! ### The bytes of a frame by index (R60) -/

section
namespace Sys2Proof.Machine

variable (c : Config) (s : List Byte) (opcode : Byte) (p : Bool)

/-- The leading byte 0x12 moves every other byte of the frame one index up. -/
theorem read_frame_add_toNat (k : Nat) :
    Memory.read (frame c s opcode p) (p.toNat + k) = Memory.read (frame c s opcode false) k := by
  cases p with
  | false => rw [Bool.toNat_false, Nat.zero_add]
  | true => rw [frame_prefixed, Bool.toNat_true, Nat.add_comm, Memory.read_eq, Memory.read_eq, List.getElem?_cons_succ]

/-- After the six bytes of the header come the payload and the two bytes of the trailer. -/
theorem read_frame_after_header (k : Nat) :
    Memory.read (frame c s opcode p) (p.toNat + 6 + k) = Memory.read (s ++ [checksum c s, 0xFF#8]) k := by
  rw [Nat.add_assoc, read_frame_add_toNat, Nat.add_comm]
  rfl

theorem read_frame_payload {k : Nat} (hk : k < s.length) :
    Memory.read (frame c s opcode p) (p.toNat + 6 + k) = Memory.read s k := by
  rw [read_frame_after_header, Memory.read_eq, Memory.read_eq, List.getElem?_append_left hk]

theorem read_frame_checksum :
    Memory.read (frame c s opcode p) (p.toNat + 6 + s.length) = some (checksum c s) := by
  rw [read_frame_after_header, Memory.read_eq, List.getElem?_append_right le_rfl, Nat.sub_self]
  rfl

/-- The last byte of the frame. -/
theorem read_frame_end :
    Memory.read (frame c s opcode p) (p.toNat + 7 + s.length) = some 0xFF#8 := by
  have hindex : p.toNat + 7 + s.length = p.toNat + 6 + (s.length + 1) := by omega
  rw [hindex, read_frame_after_header, Memory.read_eq, List.getElem?_append_right (Nat.le_add_right _ 1),
    Nat.add_sub_cancel_left]
  rfl

end Sys2Proof.Machine
end

/-! ### The command (R61) -/

section
namespace Sys2Proof.Machine

variable {s : State} (opcode : Byte) (p : Bool)

theorem exec_frame (s : State) : exec (.frame opcode p) s = execFrame opcode p s := rfl

/-- R61: the state after a FRAME that succeeds (`exec_frame_of_le`). -/
def State.framed (s : State) (opcode : Byte) (p : Bool) : State :=
  ((s.setObuf (frame s.cfg s.ibuf opcode p)).setCrc (checksum s.cfg s.ibuf)).succeed

theorem exec_frame_of_le (h : s.ibuf.length ≤ 255) :
    exec (.frame opcode p) s = .next (s.framed opcode p) := by
  rw [exec_frame, execFrame_next, if_neg h.not_gt]
  rfl

theorem exec_frame_of_lt (h : 255 < s.ibuf.length) :
    exec (.frame opcode p) s = .next (s.raise .payloadTooLarge) := by
  rw [exec_frame, execFrame_next, if_pos h]

@[simp] theorem framed_obuf (s : State) : (s.framed opcode p).obuf = frame s.cfg s.ibuf opcode p := rfl

theorem framed_keepsAllBut (s : State) : KeepsAllBut [.obuf, .crc, .lastErr] s (s.framed opcode p) :=
  keepsAllBut_of rfl rfl rfl (by simp [State.framed])

end Sys2Proof.Machine
end

section
open Sys2Proof Sys2Proof.Machine

/-- Settles O17: the word is the one FRAME is encoded as; on success OBUF is the frame, whose bytes have lemmas above
by index; a payload too long is the shared error operation. -/
theorem frameBuildsTheWireForm : Obligations.FrameBuildsTheWireForm := by
  unfold Obligations.FrameBuildsTheWireForm
  refine ⟨fun opcode p => ?decodes, fun opcode p s h => ?frames, fun opcode p s h => ?tooLarge⟩
  case decodes => rw [← encode_frame, decode_encode]
  case tooLarge => exact ⟨_, exec_frame_of_lt opcode p h, raise_raises s .payloadTooLarge⟩
  case frames =>
    have hheader := read_frame_add_toNat s.cfg s.ibuf opcode p
    have hlen := length_frame s.cfg s.ibuf opcode p
    have hp := p.toNat_le
    refine ⟨_, exec_frame_of_le opcode p h, hlen, ?leadingByte, hheader 0, hheader 1, hheader 2, hheader 3,
      ⟨_, hheader 4, ?lengthByte⟩, hheader 5, fun k => read_frame_payload s.cfg s.ibuf opcode p,
      read_frame_checksum s.cfg s.ibuf opcode p, read_frame_end s.cfg s.ibuf opcode p, rfl, ?atLeast, ?atMost, rfl,
      framed_keepsAllBut opcode p s⟩
    case leadingByte =>
      rintro rfl
      rfl
    case lengthByte => rw [BitVec.toNat_ofNat, Nat.mod_eq_of_lt (by omega)]
    case atLeast | atMost =>
      rw [framed_obuf, hlen]
      omega

end

/-! ## The checksum (41_checksum.md) -/

/-! ### The recurrence (R65) -/

section
namespace Sys2Proof.Machine

/-- R65: a byte more at the end is one byte more folded in. -/
theorem checksum_concat (c : Config) (bs : List Byte) (b : Byte) :
    checksum c (bs ++ [b]) = crcStep c (checksum c bs) b := by
  rw [checksum_append, List.foldl_cons, List.foldl_nil]

/-- R71: the entry of the table a byte replaces the checksum by; the index is always in range. -/
theorem crcTable_getElem?_xor (c : Config) (crc b : Byte) :
    c.crcTable[(crc ^^^ b).toNat]? = some (crcStep c crc b) :=
  tableAt_getElem? c (crc ^^^ b)

end Sys2Proof.Machine
end

section
open Sys2Proof Sys2Proof.Machine

/-- Settles O39: the first `k + 1` bytes are the first `k` with byte `k` at the end. -/
theorem checksumFollowsTheRecurrence : Obligations.ChecksumFollowsTheRecurrence := by
  unfold Obligations.ChecksumFollowsTheRecurrence
  refine fun c s => ⟨checksum_nil c, fun k b hb => ?_⟩
  have htake : s.take (k + 1) = s.take k ++ [b] := by rw [List.take_add_one, hb, Option.toList_some]
  rw [htake, checksum_concat, crcTable_getElem?_xor]

end

/-! ### The commands (R70, R71, R72) -/

section
namespace Sys2Proof

theorem encode_crcb (b : Byte) : encode (.crcb b) = BitVec.ofNat 16 (b.toNat * 256 + 0x30) := by
  simp [encode, encodeFields, Fields.toWord]

end Sys2Proof
end

section
namespace Sys2Proof.Machine

variable (s : State) (v : Byte)

/-- The state after a checksum command that leaves `v` in `CRC` (`exec_crci`, `exec_crcb`, `exec_crcbuf`). -/
def State.summed (s : State) (v : Byte) : State := (s.setCrc v).succeed

@[simp] theorem summed_crc : (s.summed v).crc = v := rfl

@[simp] theorem summed_lastErr : (s.summed v).lastErr = 0#4 := rfl

@[simp] theorem summed_cfg : (s.summed v).cfg = s.cfg := rfl

/-- Of two checksum commands only the value the second leaves remains. -/
@[simp] theorem summed_summed (w : Byte) : (s.summed v).summed w = s.summed w := rfl

theorem summed_keepsAllBut : KeepsAllBut [.crc, .lastErr] s (s.summed v) :=
  keepsAllBut_of rfl rfl rfl (by simp [State.summed])

theorem exec_crci : exec .crci s = .next (s.summed crcInit) := rfl

theorem exec_crcb (b : Byte) : exec (.crcb b) s = .next (s.summed (crcStep s.cfg s.crc b)) := rfl

theorem exec_crcbuf : exec .crcbuf s = .next (s.summed (checksum s.cfg s.ibuf)) := rfl

end Sys2Proof.Machine
end

section
open Sys2Proof Sys2Proof.Machine

/-- Settles O18: the word is the one CRCI is encoded as, and the command leaves the start value. -/
theorem crciStartsTheChecksum : Obligations.CrciStartsTheChecksum := by
  unfold Obligations.CrciStartsTheChecksum
  exact ⟨decode_encode .crci, fun s => ⟨_, exec_crci s, summed_crc s _, summed_lastErr s _, summed_keepsAllBut s _⟩⟩

/-- Settles O20: the word is the one CRCBUF is encoded as, and the command leaves the checksum of IBUF. -/
theorem crcbufSumsTheWholeBuffer : Obligations.CrcbufSumsTheWholeBuffer := by
  unfold Obligations.CrcbufSumsTheWholeBuffer
  exact ⟨decode_encode .crcbuf,
    fun s => ⟨_, exec_crcbuf s, summed_crc s _, summed_lastErr s _, summed_keepsAllBut s _⟩⟩

end

/-! ### A checksum streamed byte by byte (R71) -/

section
namespace Sys2Proof.Machine

theorem execAll_cons_of_next {i : Instr} {s t : State} (is : List Instr) (h : exec i s = .next t) :
    execAll (i :: is) s = execAll is t := by
  simp only [execAll, h]

/-- One CRCB per byte folds the bytes into the `CRC` a checksum command left. -/
theorem execAll_map_crcb (s : State) (bs : List Byte) (v : Byte) :
    execAll (bs.map .crcb) (s.summed v) = .next (s.summed (bs.foldl (crcStep s.cfg) v)) := by
  induction bs generalizing v with
  | nil => rfl
  | cons b bs ih =>
    have hstep : exec (.crcb b) (s.summed v) = .next (s.summed (crcStep s.cfg v b)) := by
      rw [exec_crcb, summed_cfg, summed_crc, summed_summed]
    rw [List.map_cons, execAll_cons_of_next _ hstep, ih, List.foldl_cons]

/-- CRCI and then one CRCB per byte leave the checksum of the bytes, as CRCBUF would with the bytes in IBUF. -/
theorem execAll_crci_map_crcb (s : State) (bs : List Byte) :
    execAll (.crci :: bs.map .crcb) s = .next (s.summed (checksum s.cfg bs)) := by
  rw [execAll_cons_of_next _ (exec_crci s), execAll_map_crcb, checksum]

end Sys2Proof.Machine
end

section
open Sys2Proof Sys2Proof.Machine

/-- Settles O19: the word is the one CRCB is encoded as, one CRCB leaves the table's entry, and the streamed form is
the fold of R65. -/
theorem crcbFoldsOneByte : Obligations.CrcbFoldsOneByte := by
  unfold Obligations.CrcbFoldsOneByte
  refine ⟨fun b => ?decodes, fun b s => ?oneByte, fun bs s => ?streamed⟩
  case decodes => rw [← encode_crcb, decode_encode]
  case oneByte =>
    exact ⟨_, exec_crcb s b, crcTable_getElem?_xor s.cfg s.crc b, summed_lastErr s _, summed_keepsAllBut s _⟩
  case streamed =>
    exact ⟨_, execAll_crci_map_crcb s bs, summed_crc s _, summed_lastErr s _, summed_keepsAllBut s _⟩

end

/-! ## The bitmap transformer (42_bitmap.md) -/

/-! ### The mirror of a byte (R75) -/

section
namespace Sys2Proof.Machine

/-- R75, R83: the wiring, bit by bit. -/
theorem getLsbD_reverseBits (b : Byte) {i : ℕ} (hi : i < 8) : (reverseBits b).getLsbD i = b.getLsbD (7 - i) := by
  interval_cases i <;>
    simp only [reverseBits, BitVec.getLsbD_append, BitVec.getLsbD_ofBool, Nat.reduceLT, Nat.reduceSub, if_true,
      if_false, decide_true, Bool.true_and]

@[simp] theorem reverseBits_reverseBits (b : Byte) : reverseBits (reverseBits b) = b := by
  refine BitVec.eq_of_getLsbD_eq fun i hi => ?_
  rw [getLsbD_reverseBits _ hi, getLsbD_reverseBits _ (by omega), Nat.sub_sub_self (by omega)]

theorem reverseBits_involutive : Function.Involutive reverseBits := reverseBits_reverseBits

/-- A byte as the sum of its bits, the highest first. -/
theorem toNat_eq_sum_bits (b : Byte) :
    b.toNat = ((List.range 8).map fun i => (b.getLsbD (7 - i)).toNat * 2 ^ (7 - i)).sum := by
  have hbits : Nat.ofBits (fun i : Fin 8 => b.getLsbD i) = b.toNat :=
    (Nat.ofBits_testBit b.toNat 8).trans (Nat.mod_eq_of_lt b.isLt)
  rw [← hbits]
  simp +arith [Nat.ofBits, Fin.foldr_succ, List.range_succ]

/-- R75: the mirror as a number. -/
theorem toNat_reverseBits (b : Byte) :
    (reverseBits b).toNat = ((List.range 8).map fun i => (b.getLsbD i).toNat * 2 ^ (7 - i)).sum := by
  rw [toNat_eq_sum_bits]
  refine congrArg List.sum (List.map_congr_left fun i hi => ?_)
  have hi8 := List.mem_range.1 hi
  rw [getLsbD_reverseBits b (by omega), Nat.sub_sub_self (by omega)]

/-- R75: the fixed points, one for each low half of a byte: its mirror is the high half. -/
theorem reverseBits_eq_self_iff : ∀ b : Byte, reverseBits b = b ↔
    b ∈ [0x00#8, 0x18#8, 0x24#8, 0x3C#8, 0x42#8, 0x5A#8, 0x66#8, 0x7E#8] ++
      [0x81#8, 0x99#8, 0xA5#8, 0xBD#8, 0xC3#8, 0xDB#8, 0xE7#8, 0xFF#8] := by
  decide

end Sys2Proof.Machine
end

section
open Sys2Proof Sys2Proof.Machine

/-- Settles O44: bit by bit and as a number; what is its own inverse is a bijection; the fixed points are counted out
over all bytes. -/
theorem reverseBitsIsTheMirror : Obligations.ReverseBitsIsTheMirror := by
  unfold Obligations.ReverseBitsIsTheMirror
  exact ⟨fun b _ => getLsbD_reverseBits b, toNat_reverseBits, reverseBits_reverseBits,
    reverseBits_involutive.bijective, reverseBits_eq_self_iff⟩

end

/-! ### The mirror of a sequence (R77) -/

section
namespace Sys2Proof.Machine

@[simp] theorem revbuf_revbuf (s : List Byte) : revbuf (revbuf s) = s := by
  rw [revbuf, revbuf, List.map_map, reverseBits_involutive.comp_self, List.map_id]

/-- R77: a pixel stays in its byte, at the mirrored place. -/
theorem pixel_revbuf (s : List Byte) (w8 x y : ℕ) :
    pixel (revbuf s) w8 (8 * (x / 8) + 7 - x % 8) y = pixel s w8 x y := by
  have hbyte : (8 * (x / 8) + 7 - x % 8) / 8 = x / 8 := by omega
  have hbit : (8 * (x / 8) + 7 - x % 8) % 8 = 7 - x % 8 := by omega
  have hmirror (b : Byte) : (reverseBits b).getLsbD (7 - (7 - x % 8)) = b.getLsbD (7 - x % 8) := by
    rw [getLsbD_reverseBits b (by omega), Nat.sub_sub_self (by omega)]
  simp only [pixel, hbyte, hbit, read_revbuf, Option.map_map, Function.comp_def, hmirror]

end Sys2Proof.Machine
end

section
open Sys2Proof Sys2Proof.Machine

/-- Settles O47: byte by byte, and so the pixel of a byte goes to the mirrored bit of the same byte. -/
theorem revbufMirrorsGroupsOfEight : Obligations.RevbufMirrorsGroupsOfEight := by
  unfold Obligations.RevbufMirrorsGroupsOfEight
  exact fun s => ⟨length_revbuf s, read_revbuf s, revbuf_revbuf s, fun w8 x y _ => pixel_revbuf s w8 x y⟩

end

/-! ### REVB (R76) -/

section
namespace Sys2Proof

theorem encode_revb (b : Byte) : encode (.revb b) = BitVec.ofNat 16 (b.toNat * 256 + 0x50) := by
  simp [encode, encodeFields, Fields.toWord]

end Sys2Proof
end

section
namespace Sys2Proof.Machine

theorem exec_revb (b : Byte) (s : State) : exec (.revb b) s = .next (s.setRes (reverseBits b)).succeed := rfl

theorem setRes_succeed_keepsAllBut (s : State) (v : Byte) : KeepsAllBut [.res, .lastErr] s (s.setRes v).succeed :=
  keepsAllBut_of rfl rfl rfl (by simp)

end Sys2Proof.Machine
end

section
open Sys2Proof Sys2Proof.Machine

/-- Settles O21: the word is the one REVB is encoded as, `RES` is the mirror, and the mirror is its own inverse. -/
theorem revbMirrorsItsByte : Obligations.RevbMirrorsItsByte := by
  unfold Obligations.RevbMirrorsItsByte
  refine ⟨fun b => ?decodes, fun b s => ⟨_, exec_revb b s, fun i => ?mirrored, rfl,
    setRes_succeed_keepsAllBut s _, _, exec_revb _ _, ?twice⟩⟩
  case decodes => rw [← encode_revb, decode_encode]
  case mirrored => exact getLsbD_reverseBits b
  case twice => exact reverseBits_reverseBits b

end

/-! ### Where REVBUF and FLIP put their result (R78, R81) -/

section
namespace Sys2Proof.Machine

/-- A result as long as IBUF, delivered by a command that succeeds, is the content of the buffer `o` names. -/
theorem deliver_succeed_delivers (s : State) (o : Bool) {r : List Byte} (hlen : r.length = s.ibuf.length)
    {good : Memory → Prop} (hgood : good r) :
    Delivers o s (s.deliver o r).succeed s.ibuf.length good := by
  cases o with
  | false => exact ⟨rfl, hlen, hgood, keepsAllBut_of rfl rfl rfl (by simp)⟩
  | true =>
    have hibuf : (s.deliver true r).succeed.ibuf = r := Memory.writeFromZero_eq s.ibuf r hlen
    refine ⟨rfl, ?_⟩
    rw [if_pos rfl, hibuf]
    exact ⟨hlen, hgood, keepsAllBut_of rfl rfl rfl (by simp)⟩

end Sys2Proof.Machine
end

/-! ### REVBUF (R78) -/

section
namespace Sys2Proof

theorem encode_revbuf (o : Bool) : encode (.revbuf o) = BitVec.ofNat 16 (0x60 + 8 * o.toNat) := by
  cases o <;> rfl

end Sys2Proof
end

section
namespace Sys2Proof.Machine

theorem exec_revbuf (o : Bool) (s : State) :
    exec (.revbuf o) s = .next (s.deliver o (revbuf s.ibuf)).succeed := rfl

end Sys2Proof.Machine
end

section
open Sys2Proof Sys2Proof.Machine

/-- Settles O22: the word is the one REVBUF is encoded as, and what is delivered is IBUF mirrored byte by byte. -/
theorem revbufMirrorsEveryByte : Obligations.RevbufMirrorsEveryByte := by
  unfold Obligations.RevbufMirrorsEveryByte
  refine ⟨fun o => ?decodes, fun o s => ⟨_, exec_revbuf o s, ?delivers⟩⟩
  case decodes => rw [← encode_revbuf, decode_encode]
  case delivers => exact deliver_succeed_delivers s o (length_revbuf s.ibuf) (read_revbuf s.ibuf)

end

/-! ### FLIP (R80, R81) -/

section
namespace Sys2Proof

theorem encode_flip (h v o : Bool) :
    encode (.flip h v o) = BitVec.ofNat 16 (0x70 + h.toNat + 2 * v.toNat + 8 * o.toNat) := by
  cases h <;> cases v <;> cases o <;> rfl

end Sys2Proof
end

section
namespace Sys2Proof.Machine

/-- R80: the table of flips, by row and column. -/
theorem read_flipBitmap_at {b : List Byte} {w8 hgt r c : ℕ} (h v : Bool) (hb : b.length = w8 * hgt) (hr : r < hgt)
    (hc : c < w8) : Memory.read (flipBitmap b w8 hgt h v) (r * w8 + c) = flippedByte b w8 hgt h v r c := by
  rw [read_flipBitmap h v hb (row_index_lt hr hc), flipSource_at w8 hgt h v hc]
  cases h with
  | false => cases v <;> exact Option.map_id_apply
  | true => cases v <;> rfl

variable {h v : Bool} {s : State}

/-- R81: a no-op looks at no geometry. -/
theorem exec_flip_noop (o : Bool) (s : State) :
    exec (.flip false false o) s = .next (s.deliver o s.ibuf).succeed :=
  execFlip_next false false o s

/-- R81: with `h` or `v` the geometry decides. -/
theorem exec_flip_of_or (o : Bool) (s : State) (hhv : (h || v) = true) :
    exec (.flip h v o) s = .next (if s.geometryFits = true then
      (s.deliver o (flipBitmap s.ibuf s.rowBytes s.height.toNat h v)).succeed else s.raise .badGeometry) := by
  have hflips : ¬(h = false ∧ v = false) := by rwa [← Bool.or_eq_false_iff, Bool.not_eq_false]
  exact (execFlip_next h v o s).trans (by rw [if_neg hflips])

theorem exec_flip_of_fits (o : Bool) (hhv : (h || v) = true) (hfits : s.geometryFits = true) :
    exec (.flip h v o) s = .next (s.deliver o (flipBitmap s.ibuf s.rowBytes s.height.toNat h v)).succeed := by
  rw [exec_flip_of_or o s hhv, if_pos hfits]

theorem exec_flip_of_not_fits (o : Bool) (hhv : (h || v) = true) (hfits : ¬s.geometryFits = true) :
    exec (.flip h v o) s = .next (s.raise .badGeometry) := by
  rw [exec_flip_of_or o s hhv, if_neg hfits]

end Sys2Proof.Machine
end

section
open Sys2Proof Sys2Proof.Machine

/-- Settles O23: the word is the one FLIP is encoded as; a no-op delivers IBUF, a geometry that fits the flipped bitmap,
whose bytes are read by row and column, and any other geometry is the shared error operation. -/
theorem flipMovesEveryByte : Obligations.FlipMovesEveryByte := by
  unfold Obligations.FlipMovesEveryByte
  refine ⟨fun h v o => ?decodes, fun o s => ?copies, fun h v o s hhv hwidth hsize => ?flips,
    fun h v o s hhv hbad => ?badGeometry⟩
  case decodes => rw [← encode_flip, decode_encode]
  case copies => exact ⟨_, exec_flip_noop o s, deliver_succeed_delivers s o rfl fun _ => rfl⟩
  case flips =>
    have hfits := (geometryFits_iff s).2 ⟨hwidth, hsize⟩
    exact ⟨_, exec_flip_of_fits o hhv hfits, deliver_succeed_delivers s o (length_flipBitmap ..)
      fun _ _ => read_flipBitmap_at h v hsize.symm⟩
  case badGeometry =>
    have hnot : ¬s.geometryFits = true := by rwa [geometryFits_iff, not_and_or]
    exact ⟨_, exec_flip_of_not_fits o hhv hnot, raise_raises s .badGeometry⟩

end

/-! ## Buffer and control commands (43_buffer_control.md) -/

/-! ### NOP (R90) -/

section
namespace Sys2Proof.Machine

theorem exec_nop (s : State) : exec .nop s = .next s.succeed := rfl

theorem succeed_keepsAllBut (s : State) : KeepsAllBut [.lastErr] s s.succeed :=
  keepsAllBut_of rfl rfl rfl (by simp)

end Sys2Proof.Machine
end

section
open Sys2Proof Sys2Proof.Machine

/-- Settles O14: the word is the one NOP is encoded as, and the command is the end of a command in success alone. -/
theorem nopWritesOnlyLasterr : Obligations.NopWritesOnlyLasterr := by
  unfold Obligations.NopWritesOnlyLasterr
  exact ⟨decode_encode .nop, fun s => ⟨_, exec_nop s, succeed_lastErr s, succeed_keepsAllBut s⟩⟩

end

/-! ### PUSH (R91) -/

section
namespace Sys2Proof

theorem encode_push (b : Byte) : encode (.push b) = BitVec.ofNat 16 (b.toNat * 256 + 0x80) := by
  simp [encode, encodeFields, Fields.toWord]

end Sys2Proof
end

section
namespace Sys2Proof.Machine

variable {s : State} (b : Byte)

theorem exec_push (s : State) : exec (.push b) s = execPush b s := rfl

theorem exec_push_of_room (h : s.ibuf.length ≠ s.cfg.bufSize) :
    exec (.push b) s = .next (s.setIbuf (s.ibuf.append b)).succeed := by
  rw [exec_push, execPush_next, if_neg h]

/-- R91: no room, so the byte is dropped. -/
theorem exec_push_of_full (h : s.ibuf.length = s.cfg.bufSize) :
    exec (.push b) s = .next (s.raise .bufferFull) := by
  rw [exec_push, execPush_next, if_pos h]

theorem setIbuf_succeed_keepsAllBut (s : State) (m : Memory) :
    KeepsAllBut [.ibuf, .lastErr] s (s.setIbuf m).succeed :=
  keepsAllBut_of rfl rfl rfl (by simp)

end Sys2Proof.Machine
end

section
open Sys2Proof Sys2Proof.Machine

/-- Settles O15: the word is the one PUSH is encoded as; with room IBUF is the old one with the byte appended, and
without it the command is the shared error operation. -/
theorem pushAppendsOneByte : Obligations.PushAppendsOneByte := by
  unfold Obligations.PushAppendsOneByte
  refine ⟨fun b => ?decodes, fun b s h => ?appends, fun b s h => ?bufferFull⟩
  case decodes => rw [← encode_push, decode_encode]
  case appends =>
    exact ⟨_, exec_push_of_room b h, Memory.length_append s.ibuf b, Memory.read_append_self s.ibuf b,
      fun _ => Memory.read_append_ne s.ibuf b, rfl, setIbuf_succeed_keepsAllBut s _⟩
  case bufferFull => exact ⟨_, exec_push_of_full b h, raise_raises s .bufferFull⟩

end

/-! ### CLR (R92) -/

section
namespace Sys2Proof

theorem encode_clr (i o e : Bool) :
    encode (.clr i o e) = BitVec.ofNat 16 (0x90 + i.toNat + 2 * o.toNat + 4 * e.toNat) := by
  cases i <;> cases o <;> cases e <;> rfl

end Sys2Proof
end

section
namespace Sys2Proof.Machine

variable (s : State) (i o e : Bool)

/-- R92: the state after a CLR (`exec_clr`). -/
def State.cleared (s : State) (i o e : Bool) : State :=
  { s with
    ibuf := if i then [] else s.ibuf
    obuf := if o then [] else s.obuf
    sticky := if e then 0 else s.sticky
    lastErr := 0 }

theorem exec_clr : exec (.clr i o e) s = .next (s.cleared i o e) := execClr_next i o e s

theorem cleared_ibuf_empty_or_same :
    if i then (s.cleared i o e).ibuf.length = 0 else Part.ibuf.Same s (s.cleared i o e) := by
  cases i with
  | false => exact Part.ibuf.same_refl s
  | true => rfl

theorem cleared_obuf_empty_or_same :
    if o then (s.cleared i o e).obuf.length = 0 else Part.obuf.Same s (s.cleared i o e) := by
  cases o with
  | false => exact Part.obuf.same_refl s
  | true => rfl

theorem cleared_sticky_zero_or_same :
    if e then (s.cleared i o e).sticky = 0#4 else (s.cleared i o e).sticky = s.sticky := by
  cases e <;> rfl

theorem cleared_keepsAllBut : KeepsAllBut [.ibuf, .obuf, .sticky, .lastErr] s (s.cleared i o e) :=
  keepsAllBut_of rfl rfl rfl (by simp [State.cleared])

end Sys2Proof.Machine
end

section
open Sys2Proof Sys2Proof.Machine

/-- Settles O16: the word is the one CLR is encoded as, and each modifier decides about its own part. -/
theorem clrClearsWhatItNames : Obligations.ClrClearsWhatItNames := by
  unfold Obligations.ClrClearsWhatItNames
  refine ⟨fun i o e => ?decodes, fun i o e s => ⟨_, exec_clr s i o e, rfl, cleared_ibuf_empty_or_same s i o e,
    cleared_obuf_empty_or_same s i o e, cleared_sticky_zero_or_same s i o e, cleared_keepsAllBut s i o e⟩⟩
  case decodes => rw [← encode_clr, decode_encode]

end

/-! ## Errors (60_exceptions.md) -/

/-! ### The two ends of a command (R103, R104, R107) -/

section
namespace Sys2Proof.Machine

/-- R103: the error branch of FRAME, FLIP and PUSH is the shared error operation on the state before the command; every
other branch ends in success. -/
theorem exec_succeeds_or_raises (i : Instr) (s : State) :
    ∃ t, exec i s = .next t ∧ (t.lastErr = 0#4 ∨ ∃ e, t = s.raise e) := by
  cases i with
  | nop => exact ⟨_, exec_nop s, .inl rfl⟩
  | crci => exact ⟨_, exec_crci s, .inl rfl⟩
  | crcb b => exact ⟨_, exec_crcb s b, .inl rfl⟩
  | crcbuf => exact ⟨_, exec_crcbuf s, .inl rfl⟩
  | revb b => exact ⟨_, exec_revb b s, .inl rfl⟩
  | revbuf o => exact ⟨_, exec_revbuf o s, .inl rfl⟩
  | clr ib ob ef => exact ⟨_, exec_clr s ib ob ef, .inl rfl⟩
  | frame opcode p =>
    by_cases hlen : s.ibuf.length ≤ 255
    · exact ⟨_, exec_frame_of_le opcode p hlen, .inl rfl⟩
    · exact ⟨_, exec_frame_of_lt opcode p (not_le.1 hlen), .inr ⟨_, rfl⟩⟩
  | push b =>
    by_cases hfull : s.ibuf.length = s.cfg.bufSize
    · exact ⟨_, exec_push_of_full b hfull, .inr ⟨_, rfl⟩⟩
    · exact ⟨_, exec_push_of_room b hfull, .inl rfl⟩
  | flip h v o =>
    refine ⟨_, execFlip_next h v o s, ?_⟩
    split_ifs with hnoop hfits
    · exact .inl rfl
    · exact .inl rfl
    · exact .inr ⟨_, rfl⟩

/-- R104: an illegal word raises before anything else is looked at; a legal one ends as its command does. -/
theorem runCommand_succeeds_or_raises (w : Word) (s : State) :
    ∃ t, runCommand w s = .next t ∧ (t.lastErr = 0#4 ∨ ∃ e, t = s.raise e) := by
  obtain ⟨i, -, hrun⟩ | ⟨-, hrun⟩ := runCommand_cases w s
  · rw [hrun]
    exact exec_succeeds_or_raises i s
  · exact ⟨_, hrun, .inr ⟨_, rfl⟩⟩

end Sys2Proof.Machine
end

section
open Sys2Proof Sys2Proof.Machine

/-- Settles O25: a write to `CMD` runs its word, and an error of it is the shared error operation, whose effect is
R103's. -/
theorem commandSucceedsOrRaisesPrecisely : Obligations.CommandSucceedsOrRaisesPrecisely := by
  unfold Obligations.CommandSucceedsOrRaisesPrecisely
  intro s w rest h
  rw [step_of_write_cmd h]
  obtain ⟨t, hrun, hok | ⟨e, rfl⟩⟩ := runCommand_succeeds_or_raises w (s.accepted rest)
  · exact ⟨t, hrun, .inl hok⟩
  · exact ⟨_, hrun, .inr ⟨e, raise_raises _ e⟩⟩

end

/-! ## The whole encoding: decode and encode, and how many words are legal (R47, R51) -/

section
namespace Sys2Proof

variable {i : Instr} {w : Word}

/-- R51: the word of the command a word decodes to is that word. -/
theorem encode_of_decode (h : decode w = .ok i) : encode i = w := by
  rw [encode, encodeFields_of_decode h, Fields.toWord_ofWord]

theorem decode_eq_ok_iff : decode w = .ok i ↔ encode i = w := by
  refine ⟨encode_of_decode, ?_⟩
  rintro rfl
  exact decode_encode i

theorem encode_injective : Function.Injective encode := fun i _ h =>
  Except.ok.inj ((decode_encode i).symm.trans (decode_eq_ok_iff.2 h.symm))

theorem decodeTableWord_eq_some_iff {nbits n : ℕ} :
    decodeTableWord nbits n = some i ↔ decode (tableWord nbits n) = .ok i := by
  unfold decodeTableWord
  split <;> simp [*]

/-- The numbers below 65536 that are legal words are the words of the commands. -/
theorem coe_toFinset_filter_decodeTableWord :
    (((List.range 65536).filter fun n => (decodeTableWord 16 n).isSome).toFinset : Set ℕ) =
      Set.range fun i => (encode i).toNat := by
  ext n
  simp only [List.coe_toFinset, Set.mem_ofPred_eq, List.mem_filter, List.mem_range, Set.mem_range,
    Option.isSome_iff_exists, decodeTableWord_eq_some_iff, decode_eq_ok_iff]
  constructor
  · rintro ⟨hn, i, hi⟩
    refine ⟨i, ?_⟩
    rw [hi, tableWord, BitVec.toNat_ofNat, Nat.mod_mod]
    exact Nat.mod_eq_of_lt hn
  · rintro ⟨i, rfl⟩
    refine ⟨(encode i).isLt, i, ?_⟩
    rw [tableWord, Nat.mod_eq_of_lt (encode i).isLt, BitVec.ofNat_toNat, BitVec.setWidth_eq]

/-- The operands of a command, one summand per row of the op map (R47). -/
abbrev Operands : Type :=
  Unit ⊕ (Byte × Bool) ⊕ Unit ⊕ Byte ⊕ Unit ⊕ Byte ⊕ Bool ⊕ (Bool × Bool × Bool) ⊕ Byte ⊕ (Bool × Bool × Bool)

def Instr.operands : Instr → Operands
  | .nop => .inl ()
  | .frame opcode p => .inr (.inl (opcode, p))
  | .crci => .inr (.inr (.inl ()))
  | .crcb b => .inr (.inr (.inr (.inl b)))
  | .crcbuf => .inr (.inr (.inr (.inr (.inl ()))))
  | .revb b => .inr (.inr (.inr (.inr (.inr (.inl b)))))
  | .revbuf o => .inr (.inr (.inr (.inr (.inr (.inr (.inl o))))))
  | .flip h v o => .inr (.inr (.inr (.inr (.inr (.inr (.inr (.inl (h, v, o))))))))
  | .push b => .inr (.inr (.inr (.inr (.inr (.inr (.inr (.inr (.inl b))))))))
  | .clr i o e => .inr (.inr (.inr (.inr (.inr (.inr (.inr (.inr (.inr (i, o, e)))))))))

def Operands.command : Operands → Instr :=
  Sum.elim (fun _ => .nop) <| Sum.elim (fun x => .frame x.1 x.2) <| Sum.elim (fun _ => .crci) <| Sum.elim .crcb <|
  Sum.elim (fun _ => .crcbuf) <| Sum.elim .revb <| Sum.elim .revbuf <| Sum.elim (fun x => .flip x.1 x.2.1 x.2.2) <|
  Sum.elim .push fun x => .clr x.1 x.2.1 x.2.2

/-- A row of the op map and operands for it make one command. -/
def instrEquivOperands : Instr ≃ Operands where
  toFun := Instr.operands
  invFun := Operands.command
  left_inv i := by cases i <;> rfl
  right_inv := by rintro (_ | _ | _ | _ | _ | _ | _ | _ | _ | _) <;> rfl

theorem card_byte : Nat.card Byte = 256 := by
  rw [Nat.card_congr BitVec.equivFin.toEquiv, Nat.card_fin]
  rfl

theorem card_bool : Nat.card Bool = 2 := by
  rw [Nat.card_eq_fintype_card, Fintype.card_bool]

/-- R51: 1 + 512 + 1 + 256 + 1 + 256 + 2 + 8 + 256 + 8 commands, in the order of the op map. -/
theorem card_instr : Nat.card Instr = 1301 := by
  rw [Nat.card_congr instrEquivOperands]
  simp only [Operands, Nat.card_sum, Nat.card_prod, Nat.card_unique, card_byte, card_bool]

end Sys2Proof
end

section
namespace Sys2Proof.Machine

theorem step_of_idle {s : State} (h : s.pending = []) : step s = .next s := by
  simp only [step, h]

theorem runCommand_of_decode {w : Word} {i : Instr} (h : decode w = .ok i) (s : State) : runCommand w s = exec i s := by
  simp only [runCommand, h]

end Sys2Proof.Machine
end

section
open Sys2Proof Sys2Proof.Machine

/-- Settles O2: the decoder drops no bit of a word it accepts, and reads every command back from its word. -/
theorem decodeAndEncodeAgree : Obligations.DecodeAndEncodeAgree := by
  unfold Obligations.DecodeAndEncodeAgree
  exact fun w i => decode_eq_ok_iff

/-- Settles O5: the legal words are the words of the commands, each of one command, so they are as many. -/
theorem legalWordsAre1301 : Obligations.LegalWordsAre1301 := by
  unfold Obligations.LegalWordsAre1301
  have hinj : Function.Injective fun i => (encode i).toNat := fun _ _ h =>
    encode_injective (BitVec.eq_of_toNat_eq h)
  rw [← List.toFinset_card_of_nodup (List.nodup_range.filter _), ← Set.ncard_coe_finset,
    coe_toFinset_filter_decodeTableWord, Set.ncard_range_of_injective hinj, card_instr]

/-- Settles O6: each word is the one its command is encoded as. -/
theorem writtenOutWordsDecode : Obligations.WrittenOutWordsDecode := by
  unfold Obligations.WrittenOutWordsDecode
  simp only [decode_eq_ok_iff]
  decide

/-- Settles O8: the step runs the word, and running a legal word is `exec` of its command. -/
theorem stepRunsTheDecodedCommand : Obligations.StepRunsTheDecodedCommand := by
  unfold Obligations.StepRunsTheDecodedCommand
  refine ⟨fun s w rest i hs hi => ?written, fun s nbits n i hi => ?placed⟩
  case written => rw [step_of_write_cmd hs, runCommand_of_decode hi]
  case placed =>
    have hs : (s.withFetchWord nbits n).pending = .write 0 (tableWord nbits n) :: s.pending := rfl
    rw [step_of_write_cmd hs, runCommand_of_decode (decodeTableWord_eq_some_iff.1 hi)]
    rfl

/-- Settles O9: with no event waiting the step has nothing to perform. -/
theorem idleKeepsAllState : Obligations.IdleKeepsAllState := by
  unfold Obligations.IdleKeepsAllState
  exact fun s => step_of_idle

end

/-! ## What a command can do, said once -/

/-! ### Its error and its result -/

section
namespace Sys2Proof.Machine

/-- R100: the error a command ends in, with its cause. -/
def errorOf (i : Instr) (s : State) : Option CmdError :=
  match i with
  | .frame _ _ => if 255 < s.ibuf.length then some .payloadTooLarge else none
  | .flip h v _ => if (h || v) = true ∧ ¬s.geometryFits = true then some .badGeometry else none
  | .push _ => if s.ibuf.length = s.cfg.bufSize then some .bufferFull else none
  | .nop | .crci | .crcb _ | .crcbuf | .revb _ | .revbuf _ | .clr _ _ _ => none

/-- R81: what a FLIP that succeeds delivers. -/
def State.flipped (s : State) (h v : Bool) : List Byte :=
  if (h || v) = true then flipBitmap s.ibuf s.rowBytes s.height.toNat h v else s.ibuf

/-- The state after a command that succeeds. -/
def State.completed (s : State) : Instr → State
  | .nop => s.succeed
  | .frame opcode p => s.framed opcode p
  | .crci => s.summed crcInit
  | .crcb b => s.summed (crcStep s.cfg s.crc b)
  | .crcbuf => s.summed (checksum s.cfg s.ibuf)
  | .revb b => (s.setRes (reverseBits b)).succeed
  | .revbuf o => (s.deliver o (revbuf s.ibuf)).succeed
  | .flip h v o => (s.deliver o (s.flipped h v)).succeed
  | .push b => (s.setIbuf (s.ibuf.append b)).succeed
  | .clr i o e => s.cleared i o e

@[simp] theorem length_flipped (s : State) (h v : Bool) : (s.flipped h v).length = s.ibuf.length := by
  unfold State.flipped
  split
  · exact length_flipBitmap ..
  · rfl

/-- R45, R103: a command raises its error, or succeeds. -/
theorem exec_eq (i : Instr) (s : State) :
    exec i s = .next ((errorOf i s).elim (s.completed i) s.raise) := by
  cases i with
  | nop | crci | crcb b | crcbuf | revb b | revbuf o => rfl
  | clr i o e => exact exec_clr s i o e
  | frame opcode p =>
    rw [exec_frame, execFrame_next]
    by_cases hlen : 255 < s.ibuf.length <;> simp [errorOf, hlen, State.completed, State.framed]
  | push b =>
    rw [exec_push, execPush_next]
    by_cases hfull : s.ibuf.length = s.cfg.bufSize <;> simp [errorOf, hfull, State.completed]
  | flip h v o =>
    by_cases hhv : (h || v) = true
    · rw [exec_flip_of_or o s hhv]
      by_cases hfits : s.geometryFits = true <;> simp [errorOf, hfits, hhv, State.completed, State.flipped]
    · obtain ⟨rfl, rfl⟩ : h = false ∧ v = false := by simpa using hhv
      exact exec_flip_noop o s

theorem exec_of_errorOf_eq_none {i : Instr} {s : State} (h : errorOf i s = none) :
    exec i s = .next (s.completed i) := by
  rw [exec_eq, h]
  rfl

theorem exec_of_errorOf_eq_some {i : Instr} {s : State} {e : CmdError} (h : errorOf i s = some e) :
    exec i s = .next (s.raise e) := by
  rw [exec_eq, h]
  rfl

/-- The two ends of a command. -/
theorem exec_cases {i : Instr} {s t : State} (h : exec i s = .next t) :
    (errorOf i s = none ∧ t = s.completed i) ∨ ∃ e, errorOf i s = some e ∧ t = s.raise e := by
  rcases he : errorOf i s with _ | e
  · rw [exec_of_errorOf_eq_none he] at h
    exact .inl ⟨rfl, (Host.Outcome.next.inj h).symm⟩
  · rw [exec_of_errorOf_eq_some he] at h
    exact .inr ⟨e, rfl, (Host.Outcome.next.inj h).symm⟩

/-- R100: which command ends in which error, and why. -/
theorem errorOf_eq_some {i : Instr} {s : State} {e : CmdError} (h : errorOf i s = some e) :
    (e = .payloadTooLarge ∧ 255 < s.ibuf.length ∧ ∃ opcode p, i = .frame opcode p) ∨
      (e = .badGeometry ∧ ¬s.geometryFits = true ∧ ∃ h v o, i = .flip h v o ∧ (h || v) = true) ∨
      (e = .bufferFull ∧ s.ibuf.length = s.cfg.bufSize ∧ ∃ b, i = .push b) := by
  cases i with
  | nop | crci | crcb b | crcbuf | revb b | revbuf o | clr i o e => nomatch h
  | frame opcode p =>
    obtain ⟨hlen, ⟨⟩⟩ := Option.ite_none_right_eq_some.1 h
    exact .inl ⟨rfl, hlen, opcode, p, rfl⟩
  | flip h' v o =>
    obtain ⟨⟨hhv, hfits⟩, ⟨⟩⟩ := Option.ite_none_right_eq_some.1 h
    exact .inr (.inl ⟨rfl, hfits, h', v, o, rfl, hhv⟩)
  | push b =>
    obtain ⟨hfull, ⟨⟩⟩ := Option.ite_none_right_eq_some.1 h
    exact .inr (.inr ⟨rfl, hfull, b, rfl⟩)

/-! ### What a success writes -/

section
variable (s : State) (i : Instr)

@[simp] theorem completed_lastErr : (s.completed i).lastErr = 0#4 := by
  cases i <;> rfl

/-- R92: the sticky flags are cleared by CLR with `e`, and kept by every other success. -/
theorem completed_sticky_cases :
    (∃ ib ob, i = .clr ib ob true) ∨ (s.completed i).sticky = s.sticky := by
  cases i with
  | clr ib ob ef =>
    cases ef with
    | false => exact .inr rfl
    | true => exact .inl ⟨ib, ob, rfl⟩
  | revbuf o => exact .inr (deliver_sticky s o _)
  | flip h v o => exact .inr (deliver_sticky s o _)
  | nop | frame opcode p | crci | crcb b | crcbuf | revb b | push b => exact .inr rfl

theorem keepsAllBut_mono {l l' : List Part} {s t : State} (h : KeepsAllBut l s t) (hl : l ⊆ l') :
    KeepsAllBut l' s t := by
  obtain ⟨hparts, hhost⟩ := h
  exact ⟨fun p hp => hparts p fun hpl => hp (hl hpl), hhost⟩

theorem deliver_succeed_keepsAllBut (o : Bool) (r : List Byte) :
    KeepsAllBut ((if o then [.ibuf] else [.obuf]) ++ [.lastErr]) s (s.deliver o r).succeed := by
  cases o <;> exact keepsAllBut_of rfl rfl rfl (by simp)

theorem cleared_keepsAllBut_named (i o e : Bool) :
    KeepsAllBut ((if i then [.ibuf] else []) ++ (if o then [.obuf] else []) ++ [.lastErr, .sticky]) s
      (s.cleared i o e) := by
  cases i <;> cases o <;> exact keepsAllBut_of rfl rfl rfl (by simp [State.cleared])

theorem raise_keepsAllBut (e : CmdError) : KeepsAllBut [.lastErr, .sticky] s (s.raise e) :=
  keepsAllBut_of rfl rfl rfl (by simp)

/-- R35: every command may write `STATUS`. -/
theorem status_subset_writesOf : [Part.lastErr, .sticky] ⊆ writesOf i := by
  cases i <;> simp [writesOf]

/-- R35: a success writes the parts listed for its command and no other. -/
theorem completed_keepsAllBut : KeepsAllBut (writesOf i) s (s.completed i) := by
  cases i with
  | nop => exact keepsAllBut_mono (succeed_keepsAllBut s) (by simp [writesOf])
  | frame opcode p => exact keepsAllBut_mono (framed_keepsAllBut opcode p s) (by simp [writesOf])
  | crci | crcb b | crcbuf => exact keepsAllBut_mono (summed_keepsAllBut s _) (by simp [writesOf])
  | revb b => exact keepsAllBut_mono (setRes_succeed_keepsAllBut s _) (by simp [writesOf])
  | revbuf o | flip h v o =>
    exact keepsAllBut_mono (deliver_succeed_keepsAllBut s o _) (by cases o <;> simp [writesOf])
  | push b => exact keepsAllBut_mono (setIbuf_succeed_keepsAllBut s _) (by simp [writesOf])
  | clr i o e => exact cleared_keepsAllBut_named s i o e

theorem exec_keepsAllBut {i : Instr} {s t : State} (h : exec i s = .next t) : KeepsAllBut (writesOf i) s t := by
  obtain ⟨-, rfl⟩ | ⟨e, -, rfl⟩ := exec_cases h
  · exact completed_keepsAllBut s i
  · exact keepsAllBut_mono (raise_keepsAllBut s e) (status_subset_writesOf i)

end

end Sys2Proof.Machine
end

section
open Sys2Proof Sys2Proof.Machine

/-- Settles O24: a success writes the parts listed for its command, an error only `STATUS`. -/
theorem commandsWriteOnlyTheirSpaces : Obligations.CommandsWriteOnlyTheirSpaces := by
  unfold Obligations.CommandsWriteOnlyTheirSpaces
  exact fun i s t => exec_keepsAllBut

/-- Settles O26: a success leaves `LASTERR` 0, and an error has one of three causes. -/
theorem errorsComeFromTheirCauses : Obligations.ErrorsComeFromTheirCauses := by
  unfold Obligations.ErrorsComeFromTheirCauses
  intro i s t h herr
  obtain ⟨-, rfl⟩ | ⟨e, he, rfl⟩ := exec_cases h
  · exact absurd (completed_lastErr s i) herr
  · obtain ⟨rfl, hlen, hi⟩ | ⟨rfl, hfits, hi⟩ | ⟨rfl, hfull, hi⟩ := errorOf_eq_some he
    · exact .inl ⟨rfl, hlen, hi⟩
    · rw [geometryFits_iff, not_and_or] at hfits
      exact .inr (.inl ⟨rfl, hfits, hi⟩)
    · exact .inr (.inr ⟨rfl, hfull, hi⟩)

end

/-! ### What a command does not look at: `STATUS` (R15) -/

section
namespace Sys2Proof.Machine

/-- The state with other values of `LASTERR` and the sticky flags. -/
def State.withStatus (s : State) (le st : BitVec 4) : State := { s with lastErr := le, sticky := st }

variable (s : State) (i : Instr) (le st : BitVec 4)

theorem errorOf_withStatus : errorOf i (s.withStatus le st) = errorOf i s := by
  cases i <;> rfl

theorem deliver_succeed_withStatus_keepsAllBut (o : Bool) (r : List Byte) :
    KeepsAllBut [.sticky] (s.deliver o r).succeed ((s.withStatus le st).deliver o r).succeed := by
  cases o <;> exact keepsAllBut_of rfl rfl rfl (by simp [State.withStatus])

theorem completed_withStatus_keepsAllBut :
    KeepsAllBut [.sticky] (s.completed i) ((s.withStatus le st).completed i) := by
  cases i with
  | revbuf o => exact deliver_succeed_withStatus_keepsAllBut s le st o (revbuf s.ibuf)
  | flip h v o => exact deliver_succeed_withStatus_keepsAllBut s le st o (s.flipped h v)
  | nop | frame opcode p | crci | crcb b | crcbuf | revb b | push b | clr ib ob ef =>
    exact keepsAllBut_of rfl rfl rfl ⟨.inr rfl, .inr rfl, .inr rfl, .inr rfl, .inr rfl, .inr rfl, .inl (by simp),
      .inr rfl, .inr rfl⟩

theorem raise_withStatus_keepsAllBut (e : CmdError) :
    KeepsAllBut [.sticky] (s.raise e) ((s.withStatus le st).raise e) :=
  keepsAllBut_of rfl rfl rfl (by simp [State.withStatus])

end Sys2Proof.Machine
end

section
open Sys2Proof Sys2Proof.Machine

/-- Settles O29: neither the error of a command nor what its success writes depends on `STATUS`. -/
theorem noResultDependsOnStatus : Obligations.NoResultDependsOnStatus := by
  unfold Obligations.NoResultDependsOnStatus
  intro i s le st
  have hsame := errorOf_withStatus s i le st
  rcases he : errorOf i s with _ | e
  · exact ⟨_, _, exec_of_errorOf_eq_none he, exec_of_errorOf_eq_none (hsame.trans he),
      completed_withStatus_keepsAllBut s i le st⟩
  · exact ⟨_, _, exec_of_errorOf_eq_some he, exec_of_errorOf_eq_some (hsame.trans he),
      raise_withStatus_keepsAllBut s le st e⟩

end

/-! ### The degenerate forms (R56) -/

section
namespace Sys2Proof

theorem encode_mem_degenerate_iff (i : Instr) : encode i ∈ [0x0000#16, 0x0090#16, 0x0078#16] ↔
    i = .nop ∨ i = .clr false false false ∨ i = .flip false false true := by
  have hnop : encode .nop = 0x0000#16 := by decide
  have hclr : encode (.clr false false false) = 0x0090#16 := by decide
  have hflip : encode (.flip false false true) = 0x0078#16 := by decide
  rw [← hnop, ← hclr, ← hflip]
  simp only [List.mem_cons, List.not_mem_nil, or_false, encode_injective.eq_iff]

end Sys2Proof
end

section
namespace Sys2Proof.Machine

/-- The in-place FLIP with neither flip writes IBUF over itself. -/
theorem exec_flip_in_place_noop (s : State) : exec (.flip false false true) s = .next s.succeed := by
  rw [exec_flip_noop, State.deliver, if_pos rfl, Memory.writeFromZero_eq _ _ rfl]
  rfl

theorem exec_clr_noop (s : State) : exec (.clr false false false) s = .next s.succeed := exec_clr s false false false

/-- Parameters with an admissible table of two values. -/
def twoValueConfig : Config :=
  { above := 0, crcTable := (Vector.replicate 256 0x00#8).set 0x10 0x70#8 }

theorem tableAt_twoValueConfig_ne (b : Byte) : tableAt twoValueConfig b ≠ 0x01#8 := by
  have hentry : tableAt twoValueConfig b = if 0x10 = b.toNat then 0x70#8 else 0x00#8 := by
    simp [tableAt, twoValueConfig, Vector.getElem_set]
  rw [hentry]
  split <;> decide

/-- No checksum has the value 0x01 with this table. -/
theorem checksum_twoValueConfig_ne (bs : List Byte) : checksum twoValueConfig bs ≠ 0x01#8 := by
  induction bs using List.reverseRecOn with
  | nil => decide
  | append_singleton bs b _ =>
    rw [checksum_concat]
    exact tableAt_twoValueConfig_ne _

/-- A state in which every part a command can write holds a value that the command would not leave there: `CRC` is no
checksum, `RES` is `r`, one byte in IBUF and two in OBUF, an empty geometry, and one sticky flag set. -/
def changeable (r : Byte) : State :=
  { State.resetWith twoValueConfig with crc := 0x01, res := r, sticky := 0b0001, ibuf := [0x01], obuf := [0x00, 0x00] }

theorem changeable_inv (r : Byte) : (changeable r).Inv :=
  ⟨⟨rfl, rfl⟩, (Memory.wf_iff _ _).2 (by decide : 1 ≤ 264), (Memory.wf_iff _ _).2 (by decide : 2 ≤ 264), .inl rfl⟩

variable {i : Instr} {r : Byte}

/-- A part other than `LASTERR` that a command changes shows that it is not degenerate. -/
theorem changes_of_not_same {t : State} (p : Part) (hp : p ≠ .lastErr) (hexec : exec i (changeable r) = .next t)
    (h : ¬p.Same (changeable r) t) : ∃ s t : State, s.Inv ∧ exec i s = .next t ∧ ¬KeepsAllBut [.lastErr] s t :=
  ⟨_, t, changeable_inv r, hexec, fun ⟨hparts, _⟩ => h (hparts p (by simpa using hp))⟩

theorem changes_of_completed (p : Part) (hp : p ≠ .lastErr) (hok : errorOf i (changeable r) = none)
    (h : ¬p.Same (changeable r) ((changeable r).completed i)) :
    ∃ s t : State, s.Inv ∧ exec i s = .next t ∧ ¬KeepsAllBut [.lastErr] s t :=
  changes_of_not_same p hp (exec_of_errorOf_eq_none hok) h

theorem not_same_obuf_of_length {s t : State} (h : t.obuf.length ≠ s.obuf.length) : ¬Part.obuf.Same s t :=
  fun hsame => h hsame.1

theorem not_same_ibuf_of_length {s t : State} (h : t.ibuf.length ≠ s.ibuf.length) : ¬Part.ibuf.Same s t :=
  fun hsame => h hsame.1

/-- R56: every command but the degenerate forms changes something besides `LASTERR` in some state. -/
theorem changes_of_not_degenerate (i : Instr)
    (hi : ¬(i = .nop ∨ i = .clr false false false ∨ i = .flip false false true)) :
    ∃ s t : State, s.Inv ∧ exec i s = .next t ∧ ¬KeepsAllBut [.lastErr] s t := by
  cases i with
  | nop => exact absurd (.inl rfl) hi
  | crci => exact changes_of_completed (r := 0) .crc nofun rfl (checksum_twoValueConfig_ne [])
  | crcb b => exact changes_of_completed (r := 0) .crc nofun rfl (tableAt_twoValueConfig_ne _)
  | crcbuf => exact changes_of_completed (r := 0) .crc nofun rfl (checksum_twoValueConfig_ne _)
  | frame opcode p => exact changes_of_completed (r := 0) .crc nofun rfl (checksum_twoValueConfig_ne _)
  | revb b =>
    exact changes_of_completed (r := ~~~reverseBits b) .res nofun rfl (BitVec.ne_not_self (by decide))
  | revbuf o =>
    cases o with
    | false => exact changes_of_completed (r := 0) .obuf nofun rfl (not_same_obuf_of_length (by decide))
    | true => exact changes_of_completed (r := 0) .ibuf nofun rfl fun hsame => absurd (hsame.2 0) (by decide)
  | push b => exact changes_of_completed (r := 0) .ibuf nofun rfl (not_same_ibuf_of_length (by decide : 2 ≠ 1))
  | flip h v o =>
    by_cases hhv : (h || v) = true
    · have hbad : errorOf (.flip h v o) (changeable 0) = some .badGeometry := if_pos ⟨hhv, by decide⟩
      exact changes_of_not_same (r := 0) .sticky nofun (exec_of_errorOf_eq_some hbad)
        (by decide : 0b0101#4 ≠ 0b0001#4)
    · obtain ⟨rfl, rfl⟩ : h = false ∧ v = false := by simpa using hhv
      cases o with
      | false => exact changes_of_completed (r := 0) .obuf nofun rfl (not_same_obuf_of_length (by decide))
      | true => exact absurd (.inr (.inr rfl)) hi
  | clr ib ob ef =>
    cases ib with
    | true => exact changes_of_completed (r := 0) .ibuf nofun rfl (not_same_ibuf_of_length Nat.zero_ne_one)
    | false =>
      cases ob with
      | true => exact changes_of_completed (r := 0) .obuf nofun rfl (not_same_obuf_of_length (by decide : 0 ≠ 2))
      | false =>
        cases ef with
        | true => exact changes_of_completed (r := 0) .sticky nofun rfl (by decide : 0b0000#4 ≠ 0b0001#4)
        | false => exact absurd (.inr (.inl rfl)) hi

end Sys2Proof.Machine
end

section
open Sys2Proof Sys2Proof.Machine

/-- Settles O7: the three words are those of NOP, CLR with no modifier and the in-place FLIP with neither flip, which
end in success and write nothing; each other command changes `changeable` for some value of `RES`. -/
theorem degenerateFormsAreThese : Obligations.DegenerateFormsAreThese := by
  unfold Obligations.DegenerateFormsAreThese
  simp only [encode_mem_degenerate_iff]
  refine ⟨?degenerate, changes_of_not_degenerate⟩
  rintro i (rfl | rfl | rfl) s
  · exact ⟨_, exec_nop s, succeed_lastErr s, succeed_keepsAllBut s⟩
  · exact ⟨_, exec_clr_noop s, succeed_lastErr s, succeed_keepsAllBut s⟩
  · exact ⟨_, exec_flip_in_place_noop s, succeed_lastErr s, succeed_keepsAllBut s⟩

end

/-! ## What one event can do, said once (R33, R34, R45, R115) -/

section
namespace Sys2Proof.Machine

/-- `Effect s rest e t`: performing the event `e` in `s`, the events `rest` waiting behind it, leads to `t`
(`effect_of_step`). The two ends of a command word are cases of their own. -/
inductive Effect (s : State) (rest : List HostEvent) : HostEvent → State → Prop where
  | read (a : RegNum) : Effect s rest (.read a) ((s.setPending rest).respond (s.readReg a))
  | succeeds {w : Word} {i : Instr} (hw : decode w = .ok i) (hok : errorOf i (s.accepted rest) = none) :
      Effect s rest (.write 0 w) ((s.accepted rest).completed i)
  | fails {w : Word} (e : CmdError) (hrun : runCommand w (s.accepted rest) = .next ((s.accepted rest).raise e)) :
      Effect s rest (.write 0 w) ((s.accepted rest).raise e)
  | plain {a : RegNum} (w : Word) (ha : a ≠ 0) :
      Effect s rest (.write a w) ((s.accepted rest).writePlain (PortReg.ofNum a) w)
  | reset : Effect s rest .reset (s.setPending rest).applyReset

/-- R107: every event has its effect, and no other. -/
theorem step_effect {s : State} {e : HostEvent} {rest : List HostEvent} (h : s.pending = e :: rest) :
    ∃ t, step s = .next t ∧ Effect s rest e t := by
  cases e with
  | read a => exact ⟨_, step_of_read h, .read a⟩
  | reset => exact ⟨_, step_of_pending h, .reset⟩
  | write a w =>
    by_cases ha : a = 0
    · subst ha
      rw [step_of_write_cmd h]
      obtain ⟨i, hw, hrun⟩ | ⟨-, hrun⟩ := runCommand_cases w (s.accepted rest)
      · rcases he : errorOf i (s.accepted rest) with _ | e
        · exact ⟨_, hrun.trans (exec_of_errorOf_eq_none he), .succeeds hw he⟩
        · have hraise := hrun.trans (exec_of_errorOf_eq_some he)
          exact ⟨_, hraise, .fails e hraise⟩
      · exact ⟨_, hrun, .fails _ hrun⟩
    · exact ⟨_, step_of_write_plain h ha, .plain w ha⟩

theorem effect_of_step {s t : State} {e : HostEvent} {rest : List HostEvent} (h : s.pending = e :: rest)
    (hstep : step s = .next t) : Effect s rest e t := by
  obtain ⟨t', hstep', heffect⟩ := step_effect h
  obtain rfl : t' = t := Host.Outcome.next.inj (hstep'.symm.trans hstep)
  exact heffect

/-- A command word counts as the command it decodes to. -/
theorem commands_write_cmd {w : Word} {i : Instr} (h : decode w = .ok i) (p : Instr → Bool) :
    (HostEvent.write 0 w).commands p = p i := by
  simp [HostEvent.commands, cmdNum, h]

/-! ### The parts of the state an event leaves alone -/

section
variable (s : State) (r : PortReg) (w : Word)

@[simp] theorem writePlain_crc : (s.writePlain r w).crc = s.crc := by cases r <;> rfl
@[simp] theorem writePlain_res : (s.writePlain r w).res = s.res := by cases r <;> rfl
@[simp] theorem writePlain_lastErr : (s.writePlain r w).lastErr = s.lastErr := by cases r <;> rfl
@[simp] theorem writePlain_sticky : (s.writePlain r w).sticky = s.sticky := by cases r <;> rfl
@[simp] theorem writePlain_ibuf : (s.writePlain r w).ibuf = s.ibuf := by cases r <;> rfl
@[simp] theorem writePlain_obuf : (s.writePlain r w).obuf = s.obuf := by cases r <;> rfl
@[simp] theorem writePlain_cfg : (s.writePlain r w).cfg = s.cfg := by cases r <;> rfl
@[simp] theorem writePlain_pending : (s.writePlain r w).pending = s.pending := by cases r <;> rfl
@[simp] theorem writePlain_responses : (s.writePlain r w).responses = s.responses := by cases r <;> rfl

variable (rest : List HostEvent)

@[simp] theorem accepted_crc : (s.accepted rest).crc = s.crc := rfl
@[simp] theorem accepted_res : (s.accepted rest).res = s.res := rfl
@[simp] theorem accepted_width : (s.accepted rest).width = s.width := rfl
@[simp] theorem accepted_height : (s.accepted rest).height = s.height := rfl
@[simp] theorem accepted_ptr : (s.accepted rest).ptr = s.ptr := rfl
@[simp] theorem accepted_lastErr : (s.accepted rest).lastErr = s.lastErr := rfl
@[simp] theorem accepted_sticky : (s.accepted rest).sticky = s.sticky := rfl
@[simp] theorem accepted_ibuf : (s.accepted rest).ibuf = s.ibuf := rfl
@[simp] theorem accepted_obuf : (s.accepted rest).obuf = s.obuf := rfl
@[simp] theorem accepted_cfg : (s.accepted rest).cfg = s.cfg := rfl
@[simp] theorem accepted_pending : (s.accepted rest).pending = rest := rfl
@[simp] theorem accepted_responses : (s.accepted rest).responses = s.responses ++ [0] := rfl

variable (i : Instr)

@[simp] theorem completed_cfg : (s.completed i).cfg = s.cfg := by
  obtain ⟨-, hcfg, -, -⟩ := completed_keepsAllBut s i
  exact hcfg

@[simp] theorem completed_pending : (s.completed i).pending = s.pending := by
  obtain ⟨-, -, hpending, -⟩ := completed_keepsAllBut s i
  exact hpending

@[simp] theorem completed_responses : (s.completed i).responses = s.responses := by
  obtain ⟨-, -, -, hresponses⟩ := completed_keepsAllBut s i
  exact hresponses

/-- R14, R35: no command writes the geometry or the window pointer. -/
theorem port_registers_notMem_writesOf : .width ∉ writesOf i ∧ .height ∉ writesOf i ∧ .ptr ∉ writesOf i := by
  cases i with
  | revbuf o | flip h v o => cases o <;> simp [writesOf]
  | clr ib ob ef => cases ib <;> cases ob <;> simp [writesOf]
  | nop | frame opcode p | crci | crcb b | crcbuf | revb b | push b => simp [writesOf]

theorem completed_part_same {p : Part} (hp : p ∉ writesOf i) : p.Same s (s.completed i) := by
  obtain ⟨hparts, -⟩ := completed_keepsAllBut s i
  exact hparts p hp

@[simp] theorem completed_width : (s.completed i).width = s.width := by
  obtain ⟨hwidth, -, -⟩ := port_registers_notMem_writesOf i
  exact completed_part_same s i hwidth

@[simp] theorem completed_height : (s.completed i).height = s.height := by
  obtain ⟨-, hheight, -⟩ := port_registers_notMem_writesOf i
  exact completed_part_same s i hheight

@[simp] theorem completed_ptr : (s.completed i).ptr = s.ptr := by
  obtain ⟨-, -, hptr⟩ := port_registers_notMem_writesOf i
  exact completed_part_same s i hptr

end

end Sys2Proof.Machine
end

/-! ### Which events change which register -/

section
open Sys2Proof Sys2Proof.Machine

/-- Settles O33: no event writes the parameters. -/
theorem parametersNeverChange : Obligations.ParametersNeverChange := by
  unfold Obligations.ParametersNeverChange
  intro s t hstep
  rcases hs : s.pending with _ | ⟨e, rest⟩
  · obtain rfl : s = t := Host.Outcome.next.inj ((step_of_idle hs).symm.trans hstep)
    rfl
  · cases effect_of_step hs hstep <;> simp

/-- Settles O27: a read and a plain write leave `LASTERR` and the sticky flags, of which `STATUS` is made. -/
theorem onlyCommandsChangeStatus : Obligations.OnlyCommandsChangeStatus := by
  unfold Obligations.OnlyCommandsChangeStatus
  intro s t e rest hs hstep hcommand hreset
  have hread (u : State) : u.readReg 1 = statusWord u.sticky u.lastErr := rfl
  rw [hread, hread]
  cases effect_of_step hs hstep with
  | read a => simp
  | plain w ha => simp
  | succeeds hw hok | fails e hrun => exact absurd hcommand (by simp [HostEvent.isCommand, cmdNum])
  | reset => exact absurd rfl hreset

/-- Settles O28: an error only sets flags, and of the successes only CLR with `e` clears any. -/
theorem stickyFlagsPersist : Obligations.StickyFlagsPersist := by
  unfold Obligations.StickyFlagsPersist
  intro s t e rest j hs hstep hset hclear
  cases effect_of_step hs hstep with
  | reset => exact .inl rfl
  | read a | plain w ha => simp [hset] at hclear
  | fails e hrun => simp [hset] at hclear
  | @succeeds w i hw hok =>
    rw [commands_write_cmd hw]
    obtain ⟨ib, ob, rfl⟩ | hsame := completed_sticky_cases (s.accepted rest) i
    · exact .inr rfl
    · simp [hsame, hset] at hclear

/-- Settles O30: only reset and a success change `CRC`, and a success leaves `LASTERR` 0. -/
theorem crcChangesOnlyByItsCommands : Obligations.CrcChangesOnlyByItsCommands := by
  unfold Obligations.CrcChangesOnlyByItsCommands
  intro s t e rest hs hstep hcrc
  cases effect_of_step hs hstep with
  | reset => exact .inl rfl
  | read a | plain w ha | fails e hrun => simp at hcrc
  | @succeeds w i hw hok =>
    rw [commands_write_cmd hw]
    refine .inr ⟨completed_lastErr _ i, ?_⟩
    cases i with
    | crci | crcb b | crcbuf | frame opcode p => rfl
    | nop | revb b | revbuf o | flip h v o | push b | clr ib ob ef => simp [State.completed, State.cleared] at hcrc

/-- Settles O31: of the successes only REVB writes `RES`; no command writes the three others, and a plain write only the
one of its number. -/
theorem dataRegistersChangeOnlyByTheirWriters : Obligations.DataRegistersChangeOnlyByTheirWriters := by
  unfold Obligations.DataRegistersChangeOnlyByTheirWriters
  intro s t e rest hs hstep hreset
  cases effect_of_step hs hstep with
  | reset => exact absurd rfl hreset
  | read a | fails e hrun => simp
  | @succeeds w i hw hok =>
    rw [commands_write_cmd hw]
    refine ⟨fun hres => ?_, by simp, by simp, by simp⟩
    cases i with
    | revb b => rfl
    | nop | frame opcode p | crci | crcb b | crcbuf | revbuf o | flip h v o | push b | clr ib ob ef =>
      simp [State.completed, State.framed, State.summed, State.cleared] at hres
  | @plain a w ha =>
    obtain hplain | ⟨hr, hplain⟩ | ⟨hr, hplain⟩ | ⟨hr, hplain⟩ :=
      writePlain_cases (s.accepted rest) (PortReg.ofNum a) w <;> rw [hplain]
    · simp
    · obtain rfl := (PortReg.ofNum_width_iff a).1 hr
      simp
    · obtain rfl := (PortReg.ofNum_height_iff a).1 hr
      simp
    · obtain rfl := (PortReg.ofNum_ptr_iff a).1 hr
      simp

end

/-! ### The lengths of the buffers (R17) -/

section
namespace Sys2Proof.Machine

theorem length_deliver_ibuf (s : State) (o : Bool) {r : List Byte} (h : r.length = s.ibuf.length) :
    (s.deliver o r).ibuf.length = s.ibuf.length := by
  cases o with
  | false => rfl
  | true => exact Memory.length_writeFromZero s.ibuf r h.le

/-- R17: what a success makes of `ILEN`. -/
theorem completed_ibuf_length_cases (s : State) (i : Instr) :
    (s.completed i).ibuf.length = s.ibuf.length ∨
      ((s.completed i).ibuf.length = s.ibuf.length + 1 ∧ ∃ b, i = .push b) ∨
      ((s.completed i).ibuf.length = 0 ∧ ∃ ob ef, i = .clr true ob ef) := by
  cases i with
  | nop | frame opcode p | crci | crcb b | crcbuf | revb b => exact .inl rfl
  | revbuf o => exact .inl (length_deliver_ibuf s o (length_revbuf s.ibuf))
  | flip h v o => exact .inl (length_deliver_ibuf s o (length_flipped s h v))
  | push b => exact .inr (.inl ⟨Memory.length_append s.ibuf b, b, rfl⟩)
  | clr ib ob ef =>
    cases ib with
    | false => exact .inl rfl
    | true => exact .inr (.inr ⟨rfl, ob, ef, rfl⟩)

/-- R17: what a success makes of `OLEN`. -/
theorem completed_obuf_length_cases (s : State) (i : Instr) :
    (s.completed i).obuf.length = s.obuf.length ∨
      (∃ opcode p, (s.completed i).obuf.length = s.ibuf.length + 8 + p.toNat ∧ i = .frame opcode p) ∨
      ((s.completed i).obuf.length = s.ibuf.length ∧ (i = .revbuf false ∨ ∃ h v, i = .flip h v false)) ∨
      ((s.completed i).obuf.length = 0 ∧ ∃ ib ef, i = .clr ib true ef) := by
  cases i with
  | nop | crci | crcb b | crcbuf | revb b | push b => exact .inl rfl
  | frame opcode p => exact .inr (.inl ⟨opcode, p, length_frame s.cfg s.ibuf opcode p, rfl⟩)
  | revbuf o =>
    cases o with
    | true => exact .inl rfl
    | false => exact .inr (.inr (.inl ⟨length_revbuf s.ibuf, .inl rfl⟩))
  | flip h v o =>
    cases o with
    | true => exact .inl rfl
    | false => exact .inr (.inr (.inl ⟨length_flipped s h v, .inr ⟨h, v, rfl⟩⟩))
  | clr ib ob ef =>
    cases ob with
    | false => exact .inl rfl
    | true => exact .inr (.inr (.inr ⟨rfl, ib, ef, rfl⟩))

end Sys2Proof.Machine
end

section
open Sys2Proof Sys2Proof.Machine

/-- Settles O32: of the events only a reset and a success touch a length, a success as R17 lists. -/
theorem lengthsChangeOnlyAsListed : Obligations.LengthsChangeOnlyAsListed := by
  unfold Obligations.LengthsChangeOnlyAsListed
  intro s t e rest hs hstep
  cases effect_of_step hs hstep with
  | read a | plain w ha | fails e hrun => simp
  | reset => exact ⟨fun _ => .inr ⟨rfl, .inl rfl⟩, fun _ => .inr (.inr (.inr ⟨rfl, .inl rfl⟩))⟩
  | @succeeds w i hw hok =>
    simp only [commands_write_cmd hw]
    constructor
    · intro hne
      obtain hsame | ⟨hlen, b, rfl⟩ | ⟨hlen, ob, ef, rfl⟩ := completed_ibuf_length_cases (s.accepted rest) i
      · exact absurd hsame hne
      · exact .inl ⟨hlen, rfl⟩
      · exact .inr ⟨hlen, .inr rfl⟩
    · intro hne
      obtain hsame | ⟨opcode, p, hlen, rfl⟩ | ⟨hlen, rfl | ⟨h, v, rfl⟩⟩ | ⟨hlen, ib, ef, rfl⟩ :=
        completed_obuf_length_cases (s.accepted rest) i
      · exact absurd hsame hne
      · cases p with
        | false => exact .inl ⟨hlen, rfl⟩
        | true => exact .inr (.inl ⟨hlen, rfl⟩)
      · exact .inr (.inr (.inl ⟨hlen, rfl⟩))
      · exact .inr (.inr (.inl ⟨hlen, rfl⟩))
      · exact .inr (.inr (.inr ⟨hlen, .inr rfl⟩))

end

/-! ## The invariant (R22) -/

section
namespace Sys2Proof.Machine

/-- R22, the part on `STATUS`: a recorded error is a code, and its sticky flag is set. -/
def State.ErrorRecorded (s : State) : Prop :=
  s.lastErr = 0 ∨ (s.lastErr.toNat ≤ 4 ∧ s.sticky.getLsbD (s.lastErr.toNat - 1) = true)

/-- The invariant in terms of lengths. -/
theorem State.inv_iff (s : State) : s.Inv ↔
    s.cfg.Admissible ∧ s.ibuf.length ≤ s.cfg.bufSize ∧ s.obuf.length ≤ s.cfg.bufSize ∧ s.ErrorRecorded := by
  simp only [State.Inv, Memory.wf_iff, State.ErrorRecorded]

/-- The invariant is about the parameters, the lengths and `STATUS`. -/
theorem State.Inv.of_same {s t : State} (h : s.Inv) (hcfg : t.cfg = s.cfg) (hibuf : t.ibuf = s.ibuf)
    (hobuf : t.obuf = s.obuf) (hlastErr : t.lastErr = s.lastErr) (hsticky : t.sticky = s.sticky) : t.Inv := by
  simpa only [State.Inv, hcfg, hibuf, hobuf, hlastErr, hsticky] using h

theorem inv_accepted {s : State} (h : s.Inv) (rest : List HostEvent) : (s.accepted rest).Inv :=
  h.of_same rfl rfl rfl rfl rfl

/-- R103: the flag of the error raised is set, whatever the flags were. -/
theorem raise_errorRecorded (s : State) (e : CmdError) : (s.raise e).ErrorRecorded := by
  have hflag : e.stickyFlag.getLsbD (e.code - 1) = true := by cases e <;> rfl
  refine .inr ⟨?_, ?_⟩
  · rw [raise_lastErr, CmdError.lastErr_toNat]
    cases e <;> decide
  · rw [raise_lastErr, CmdError.lastErr_toNat, raise_sticky, BitVec.getLsbD_or, hflag, Bool.or_true]

theorem inv_raise {s : State} (h : s.Inv) (e : CmdError) : (s.raise e).Inv := by
  obtain ⟨hadmissible, hibuf, hobuf, -⟩ := s.inv_iff.1 h
  exact (State.inv_iff _).2 ⟨hadmissible, hibuf, hobuf, raise_errorRecorded s e⟩

/-- R91: a PUSH that is not refused has room. -/
theorem completed_ibuf_length_le {s : State} {i : Instr} (h : s.ibuf.length ≤ s.cfg.bufSize)
    (hok : errorOf i s = none) : (s.completed i).ibuf.length ≤ s.cfg.bufSize := by
  obtain hsame | ⟨hlen, b, rfl⟩ | ⟨hlen, -⟩ := completed_ibuf_length_cases s i
  · rwa [hsame]
  · have hroom : s.ibuf.length ≠ s.cfg.bufSize := fun hfull => by simp [errorOf, hfull] at hok
    omega
  · omega

/-- R4, R61: the frame of a payload that is not refused fits every OBUF. -/
theorem completed_obuf_length_le {s : State} {i : Instr} (hibuf : s.ibuf.length ≤ s.cfg.bufSize)
    (hobuf : s.obuf.length ≤ s.cfg.bufSize) (hok : errorOf i s = none) :
    (s.completed i).obuf.length ≤ s.cfg.bufSize := by
  obtain hsame | ⟨opcode, p, -, rfl⟩ | ⟨hlen, -⟩ | ⟨hlen, -⟩ := completed_obuf_length_cases s i
  · rwa [hsame]
  · have hshort : s.ibuf.length ≤ 255 := not_lt.1 fun hlong => by simp [errorOf, hlong] at hok
    exact length_frame_le s.cfg s.ibuf opcode p hshort
  · rwa [hlen]
  · omega

theorem inv_completed {s : State} {i : Instr} (h : s.Inv) (hok : errorOf i s = none) : (s.completed i).Inv := by
  obtain ⟨hadmissible, hibuf, hobuf, -⟩ := s.inv_iff.1 h
  rw [State.inv_iff, completed_cfg]
  exact ⟨hadmissible, completed_ibuf_length_le hibuf hok, completed_obuf_length_le hibuf hobuf hok,
    .inl (completed_lastErr s i)⟩

theorem inv_resetWith {c : Config} (h : c.Admissible) : (State.resetWith c).Inv :=
  (State.inv_iff _).2 ⟨h, Nat.zero_le _, Nat.zero_le _, .inl rfl⟩

/-- R22: every event keeps the invariant. -/
theorem Effect.inv {s t : State} {rest : List HostEvent} {e : HostEvent} (heffect : Effect s rest e t) (h : s.Inv) :
    t.Inv := by
  obtain ⟨hadmissible, -⟩ := s.inv_iff.1 h
  cases heffect with
  | read a => exact h.of_same rfl rfl rfl rfl rfl
  | succeeds hw hok => exact inv_completed (inv_accepted h rest) hok
  | fails e hrun => exact inv_raise (inv_accepted h rest) e
  | plain w ha => exact h.of_same (by simp) (by simp) (by simp) (by simp) (by simp)
  | reset => exact (inv_resetWith hadmissible).of_same rfl rfl rfl rfl rfl

theorem step_inv {s t : State} (h : s.Inv) (hstep : step s = .next t) : t.Inv := by
  rcases hs : s.pending with _ | ⟨e, rest⟩
  · obtain rfl : s = t := Host.Outcome.next.inj ((step_of_idle hs).symm.trans hstep)
    exact h
  · exact (effect_of_step hs hstep).inv h

/-- What every step keeps, every run keeps. -/
theorem run_induction {P : State → Prop} (hkeep : ∀ s t, P s → step s = .next t → P t) {s t : State} (n : ℕ) (h : P s)
    (hrun : Sys2Proof.core.run n s = .next t) : P t := by
  induction n generalizing s with
  | zero =>
    obtain rfl : s = t := Host.Outcome.next.inj hrun
    exact h
  | succ n ih =>
    rcases hs : s.pending with _ | ⟨e, rest⟩
    · rw [run_succ_of_next (step_of_idle hs)] at hrun
      exact ih h hrun
    · obtain ⟨u, hstep, -⟩ := step_effect hs
      rw [run_succ_of_next hstep] at hrun
      exact ih (hkeep s u h hstep) hrun

/-- R67, R68: the default table has the two pinned entries. -/
theorem admissible_of_t07 {c : Config} (h : c.crcTable = t07) : c.Admissible := by
  unfold Config.Admissible
  rw [h, t07_get _ (by decide), t07_get _ (by decide)]
  decide

end Sys2Proof.Machine
end

section
open Sys2Proof Sys2Proof.Machine

/-- Settles O34: each of the ways an event can go keeps the lengths within `BUF_SIZE` and `STATUS` consistent. -/
theorem stepKeepsTheInvariant : Obligations.StepKeepsTheInvariant := by
  unfold Obligations.StepKeepsTheInvariant
  exact fun s t => step_inv

/-- Settles O35: after reset the buffers are empty and no error is recorded; T07 is admissible. -/
theorem resetHasTheInvariant : Obligations.ResetHasTheInvariant := by
  unfold Obligations.ResetHasTheInvariant
  exact ⟨inv_resetWith (admissible_of_t07 rfl), fun c => inv_resetWith⟩

/-- Settles O36: the invariant holds after reset and every step keeps it; the rest is how `STATUS` is composed. -/
theorem everyReachableStateHasTheInvariant : Obligations.EveryReachableStateHasTheInvariant := by
  unfold Obligations.EveryReachableStateHasTheInvariant
  intro c es n t hc hrun
  have hstart : ((State.resetWith c).taken es).Inv := (inv_resetWith hc).of_same rfl rfl rfl rfl rfl
  obtain ⟨-, hibuf, hobuf, herr⟩ := t.inv_iff.1 (run_induction (fun _ _ => step_inv) n hstart hrun)
  have hstatus : t.readReg 1 = statusWord t.sticky t.lastErr := rfl
  obtain ⟨-, hlow, -, hhigh⟩ := statusWord_fields t.sticky t.lastErr
  rw [hstatus]
  refine ⟨hibuf, hobuf, hlow, hhigh, ?code, fun hpos => ?flag⟩
  case code =>
    obtain hzero | ⟨hle, -⟩ := herr
    · simp [hzero]
    · exact hle
  case flag =>
    obtain hzero | ⟨-, hflag⟩ := herr
    · simp [hzero] at hpos
    · rw [getLsbD_statusWord, if_neg (by omega), if_neg (by omega)]
      rwa [show 7 + t.lastErr.toNat - 8 = t.lastErr.toNat - 1 by omega]

end

/-! ## Runs: completion and order (R39, R107) -/

section
namespace Sys2Proof.Machine

variable {s t : State} {e : HostEvent} {rest : List HostEvent}

theorem Effect.pending (h : Effect s rest e t) : t.pending = rest := by
  cases h <;> simp

/-- R44: a transaction gets one answer, a reset none. -/
theorem Effect.length_responses (h : Effect s rest e t) :
    t.responses.length = s.responses.length + e.isTransaction.toNat := by
  cases h <;> simp [HostEvent.isTransaction]

/-- As many steps as events wait perform them all. -/
theorem run_pending (es : List HostEvent) (hs : s.pending = es) :
    ∃ t, Sys2Proof.core.run es.length s = .next t ∧ t.pending = [] ∧
      t.responses.length = s.responses.length + (es.filter HostEvent.isTransaction).length := by
  induction es generalizing s with
  | nil => exact ⟨s, rfl, hs, rfl⟩
  | cons e rest ih =>
    obtain ⟨u, hstep, heffect⟩ := step_effect hs
    obtain ⟨t, hrun, hpending, hlen⟩ := ih heffect.pending
    refine ⟨t, (run_succ_of_next hstep _).trans hrun, hpending, ?_⟩
    rw [hlen, heffect.length_responses]
    cases htransaction : e.isTransaction <;> simp [htransaction, Nat.add_assoc, Nat.add_comm]

/-! ### No event looks at those that wait behind it -/

theorem errorOf_taken (i : Instr) (s : State) (es : List HostEvent) : errorOf i (s.taken es) = errorOf i s := by
  cases i <;> rfl

theorem deliver_taken (s : State) (es : List HostEvent) (o : Bool) (r : List Byte) :
    (s.taken es).deliver o r = (s.deliver o r).taken es := by
  cases o <;> rfl

theorem completed_taken (i : Instr) (s : State) (es : List HostEvent) :
    (s.taken es).completed i = (s.completed i).taken es := by
  cases i with
  | revbuf o => exact congrArg State.succeed (deliver_taken s es o (revbuf s.ibuf))
  | flip h v o => exact congrArg State.succeed (deliver_taken s es o (s.flipped h v))
  | nop | frame opcode p | crci | crcb b | crcbuf | revb b | push b | clr ib ob ef => rfl

theorem writePlain_taken (s : State) (es : List HostEvent) (r : PortReg) (w : Word) :
    (s.taken es).writePlain r w = (s.writePlain r w).taken es := by
  cases r <;> rfl

variable (es : List HostEvent)

theorem exec_taken {i : Instr} (h : exec i s = .next t) : exec i (s.taken es) = .next (t.taken es) := by
  obtain ⟨hok, rfl⟩ | ⟨e, he, rfl⟩ := exec_cases h
  · rw [← completed_taken]
    exact exec_of_errorOf_eq_none ((errorOf_taken i s es).trans hok)
  · exact exec_of_errorOf_eq_some ((errorOf_taken i s es).trans he)

theorem runCommand_taken {w : Word} (h : runCommand w s = .next t) :
    runCommand w (s.taken es) = .next (t.taken es) := by
  unfold runCommand at h ⊢
  cases hw : decode w with
  | ok i =>
    rw [hw] at h
    exact exec_taken es h
  | error r =>
    rw [hw] at h
    obtain rfl : s.raise .illegalCommand = t := Host.Outcome.next.inj h
    rfl

theorem writeReg_taken {a : RegNum} {w : Word} (h : writeReg a w s = .next t) :
    writeReg a w (s.taken es) = .next (t.taken es) := by
  unfold writeReg at h ⊢
  split_ifs at h ⊢ with hcmd
  · exact runCommand_taken es h
  · obtain rfl : s.writePlain (PortReg.ofNum a) w = t := Host.Outcome.next.inj h
    rw [writePlain_taken]

theorem perform_taken (h : perform e s = .next t) : perform e (s.taken es) = .next (t.taken es) := by
  cases e with
  | read a =>
    obtain rfl : s.respond (s.readReg a) = t := Host.Outcome.next.inj h
    rfl
  | reset =>
    obtain rfl : s.applyReset = t := Host.Outcome.next.inj h
    rfl
  | write a w => exact writeReg_taken es h

/-- One step, by what waits behind its event. -/
theorem step_taken_cons (s : State) (e : HostEvent) :
    ∃ t : State, ∀ es, step (s.taken (e :: es)) = .next (t.taken es) := by
  obtain ⟨t, hstep, -⟩ := step_effect (s := s.taken [e]) rfl
  have hperform : perform e (s.taken []) = .next t := hstep
  exact ⟨t, fun es => perform_taken (s := s.taken []) es hperform⟩

/-- R39: what waits behind the events of a run changes nothing of it. -/
theorem run_taken_append (xs ys : List HostEvent) (s : State) :
    ∃ t, Sys2Proof.core.run xs.length (s.taken xs) = .next t ∧
      Sys2Proof.core.run xs.length (s.taken (xs ++ ys)) = .next (t.taken ys) := by
  induction xs generalizing s with
  | nil => exact ⟨s.taken [], rfl, rfl⟩
  | cons e xs ih =>
    obtain ⟨u, hstep⟩ := step_taken_cons s e
    obtain ⟨t, halone, hbehind⟩ := ih u
    exact ⟨t, (run_succ_of_next (hstep xs) _).trans halone, (run_succ_of_next (hstep (xs ++ ys)) _).trans hbehind⟩

end Sys2Proof.Machine
end

section
open Sys2Proof Sys2Proof.Machine

/-- Settles O12: every event has an effect, which takes one event off the list and answers a transaction once. -/
theorem everyTransactionCompletes : Obligations.EveryTransactionCompletes := by
  unfold Obligations.EveryTransactionCompletes
  exact fun s => run_pending s.pending rfl

/-- Settles O13: performing an event does not look at the events behind it. -/
theorem earlierTransactionsIgnoreLater : Obligations.EarlierTransactionsIgnoreLater := by
  unfold Obligations.EarlierTransactionsIgnoreLater
  exact fun s xs ys => run_taken_append xs ys s

end

/-! ## Reset (70_reset_and_hazards.md) -/

section
namespace Sys2Proof.Machine

variable {s : State} {rest : List HostEvent} {w : Word}

theorem resetWith_atReset (c : Config) : AtReset (State.resetWith c) :=
  ⟨rfl, rfl, rfl, rfl, rfl, rfl, rfl, rfl, rfl⟩

/-- One step more of a run, for a write of a legal word that succeeds. -/
theorem run_succ_of_command {i : Instr} (hs : s.pending = .write 0 w :: rest) (hw : decode w = .ok i)
    (hok : errorOf i (s.accepted rest) = none) (k : ℕ) :
    Sys2Proof.core.run (k + 1) s = Sys2Proof.core.run k ((s.accepted rest).completed i) :=
  run_succ_of_next ((step_of_write_cmd hs).trans ((runCommand_of_decode hw _).trans (exec_of_errorOf_eq_none hok))) k

theorem run_succ_of_plain {a : RegNum} (hs : s.pending = .write a w :: rest) (ha : a ≠ 0) (k : ℕ) :
    Sys2Proof.core.run (k + 1) s = Sys2Proof.core.run k ((s.accepted rest).writePlain (PortReg.ofNum a) w) :=
  run_succ_of_next (step_of_write_plain hs ha) k

end Sys2Proof.Machine
end

section
open Sys2Proof Sys2Proof.Machine

/-- Settles O37: a reset step is the shared reset operation. -/
theorem resetRestoresEveryItem : Obligations.ResetRestoresEveryItem := by
  unfold Obligations.ResetRestoresEveryItem
  exact ⟨resetWith_atReset initialConfig, rfl, fun s rest hs =>
    ⟨_, step_of_pending hs, resetWith_atReset s.cfg, rfl, rfl, rfl⟩⟩

/-- Settles O38: four legal words that never fail and three plain writes, one step each. -/
theorem sevenWritesReachTheResetValues : Obligations.SevenWritesReachTheResetValues := by
  unfold Obligations.SevenWritesReachTheResetValues
  intro s
  have hclr : decode 0x0097#16 = .ok (.clr true true true) := by decide
  have hcrci : decode 0x0020#16 = .ok .crci := by decide
  have hrevb : decode 0x0050#16 = .ok (.revb 0x00) := by decide
  have hnop : decode 0x0000#16 = .ok .nop := by decide
  rw [run_succ_of_command rfl hclr rfl, run_succ_of_command rfl hcrci rfl, run_succ_of_command rfl hrevb rfl,
    run_succ_of_plain rfl (by decide), run_succ_of_plain rfl (by decide), run_succ_of_plain rfl (by decide),
    run_succ_of_command rfl hnop rfl, run_zero]
  exact ⟨_, rfl, rfl, rfl, rfl, rfl, rfl, rfl, rfl, rfl, rfl⟩

end

/-! ## The table and the checksum (R66 to R69, R74) -/

section
namespace Sys2Proof.Machine

theorem checksum_singleton (c : Config) (b : Byte) : checksum c [b] = tableAt c b := by
  simp [checksum, crcStep, crcInit]

/-- R69 (d): the parameters other than the table have no part in a checksum. -/
theorem checksum_congr {c c' : Config} (h : c'.crcTable = c.crcTable) (s : List Byte) :
    checksum c' s = checksum c s := by
  have hstep : crcStep c' = crcStep c := funext₂ fun crc b => by simp only [crcStep, tableAt, h]
  rw [checksum, checksum, hstep]

theorem tableAt_of_t07 {c : Config} (h : c.crcTable = t07) (b : Byte) : tableAt c b = t07Entry b := by
  unfold tableAt
  simp only [h]
  rw [t07_get _ b.isLt, BitVec.ofNat_toNat, BitVec.setWidth_eq]

/-- The checksum with `T07`, computed from the rounds. -/
theorem checksum_of_t07 {c : Config} (h : c.crcTable = t07) (s : List Byte) :
    checksum c s = s.foldl (fun crc b => t07Entry (crc ^^^ b)) 0x00#8 := by
  have hstep : crcStep c = fun crc b => t07Entry (crc ^^^ b) := funext₂ fun crc b => tableAt_of_t07 h (crc ^^^ b)
  rw [checksum, hstep, crcInit]

/-! ### `T07` is linear and a bijection (R69 (e), (f)) -/

/-- One round shifts, and adds the polynomial when bit 7 is set: both are linear. -/
theorem t07Round_xor (a b : Byte) : t07Round (a ^^^ b) = t07Round a ^^^ t07Round b := by
  unfold t07Round
  rw [BitVec.getLsbD_xor, BitVec.shiftLeft_xor_distrib]
  cases a.getLsbD 7 <;> cases b.getLsbD 7 <;> grind

theorem t07Entry_xor (a b : Byte) : t07Entry (a ^^^ b) = t07Entry a ^^^ t07Entry b := by
  simp only [t07Entry, t07Round_xor]

theorem eq_zero_of_t07Round_eq_zero : ∀ a : Byte, t07Round a = 0#8 → a = 0#8 := by
  decide

theorem t07Round_injective : Function.Injective t07Round := fun a b h =>
  BitVec.xor_eq_zero_iff.1 (eq_zero_of_t07Round_eq_zero _ (by rw [t07Round_xor, h, BitVec.xor_self]))

theorem t07Entry_injective : Function.Injective t07Entry := t07Round_injective.iterate 8

end Sys2Proof.Machine
end

section
open Sys2Proof Sys2Proof.Machine

/-- Settles O40: the fold gives (a) to (d); `T07` is linear with a trivial kernel, and its entry at 0 is 0. -/
theorem checksumProperties : Obligations.ChecksumProperties := by
  unfold Obligations.ChecksumProperties
  refine ⟨fun c => ⟨checksum_nil c, checksum_singleton c, checksum_concat c, fun c' s h => checksum_congr h s⟩,
    fun c hc => ?_⟩
  have htable : tableAt c = t07Entry := funext (tableAt_of_t07 hc)
  rw [htable]
  refine ⟨Finite.injective_iff_bijective.1 t07Entry_injective, t07Entry_xor, fun s => ?_⟩
  rw [checksum_concat, crcStep, BitVec.xor_self, htable]
  rfl

/-- Settles O41: the rounds are carried out for every index; the check value is folded from them. -/
theorem defaultTableIsAsPrinted : Obligations.DefaultTableIsAsPrinted := by
  unfold Obligations.DefaultTableIsAsPrinted
  refine ⟨by decide +kernel, fun c hc => ?_⟩
  rw [checksum_of_t07 hc]
  decide +kernel

/-- Settles O42: a checksum of one byte is an entry of the table, here a pinned one; the golden values are folded from
the rounds. -/
theorem pinnedChecksums : Obligations.PinnedChecksums := by
  unfold Obligations.PinnedChecksums
  refine ⟨fun c ⟨hzero, hsixteen⟩ => ?pinned, fun c hc => ⟨admissible_of_t07 hc, ?golden⟩⟩
  case pinned =>
    rw [checksum_singleton, checksum_singleton]
    exact ⟨hsixteen, hzero⟩
  case golden =>
    rw [checksum_of_t07 hc, checksum_of_t07 hc]
    decide +kernel

/-- Settles O43: the equations of an entry, counted out over all indices. -/
theorem defaultTableBitEquations : Obligations.DefaultTableBitEquations := by
  unfold Obligations.DefaultTableBitEquations
  intro c x hc
  rw [tableAt_of_t07 hc]
  revert x
  decide +kernel

end

section
open Sys2Proof Sys2Proof.Machine

/-- Settles O45: counted out over all bytes. -/
theorem reverseBitsByThreeSwaps : Obligations.ReverseBitsByThreeSwaps := by
  unfold Obligations.ReverseBitsByThreeSwaps
  decide

end

/-! ## The flips of a bitmap (R80, R82, R84) -/

/-! ### Rows and columns -/

section
namespace Sys2Proof.Machine

variable {w8 hgt r c : ℕ} {b : List Byte}

/-- R80: the row and the column a flipped byte comes from. -/
def flipRow (hgt : ℕ) (v : Bool) (r : ℕ) : ℕ := if v then hgt - 1 - r else r

def flipColumn (w8 : ℕ) (h : Bool) (c : ℕ) : ℕ := if h then w8 - 1 - c else c

/-- R80: what happens to the bits of a byte. -/
def flipByte (h : Bool) : Byte → Byte := if h then reverseBits else id

theorem flipRow_lt (v : Bool) (hr : r < hgt) : flipRow hgt v r < hgt := by
  unfold flipRow
  split <;> omega

theorem flipColumn_lt (h : Bool) (hc : c < w8) : flipColumn w8 h c < w8 := by
  unfold flipColumn
  split <;> omega

theorem flipRow_flipRow (v v' : Bool) (hr : r < hgt) : flipRow hgt v (flipRow hgt v' r) = flipRow hgt (v ^^ v') r := by
  cases v <;> cases v' <;> simp [flipRow]
  omega

theorem flipColumn_flipColumn (h h' : Bool) (hc : c < w8) :
    flipColumn w8 h (flipColumn w8 h' c) = flipColumn w8 (h ^^ h') c := by
  cases h <;> cases h' <;> simp [flipColumn]
  omega

theorem flipByte_comp (h h' : Bool) : flipByte h' ∘ flipByte h = flipByte (h ^^ h') := by
  cases h <;> cases h' <;> simp [flipByte, reverseBits_involutive.comp_self]

/-- R80 in one equation for the four kinds of flip. -/
theorem read_flipBitmap_row_column (h v : Bool) (hb : b.length = w8 * hgt) (hr : r < hgt) (hc : c < w8) :
    Memory.read (flipBitmap b w8 hgt h v) (r * w8 + c) =
      (Memory.read b (flipRow hgt v r * w8 + flipColumn w8 h c)).map (flipByte h) := by
  rw [read_flipBitmap h v hb (row_index_lt hr hc), flipSource_at w8 hgt h v hc]
  rfl

/-- Bitmaps of one geometry are equal when they are in every row and column. -/
theorem bitmap_ext {b' : List Byte} (hb : b.length = w8 * hgt) (hb' : b'.length = w8 * hgt)
    (h : ∀ r c, r < hgt → c < w8 → Memory.read b (r * w8 + c) = Memory.read b' (r * w8 + c)) : b = b' := by
  refine List.ext_getElem? fun k => ?_
  by_cases hk : k < w8 * hgt
  · obtain ⟨r, c, hr, hc, rfl⟩ := index_row_column hk
    exact h r c hr hc
  · rw [List.getElem?_eq_none (by omega), List.getElem?_eq_none (by omega)]

/-! ### How flips compose (R82) -/

/-- Two flips are one: two mirrorings in one direction undo each other. -/
theorem flipBitmap_flipBitmap (hb : b.length = w8 * hgt) (h v h' v' : Bool) :
    flipBitmap (flipBitmap b w8 hgt h v) w8 hgt h' v' = flipBitmap b w8 hgt (h ^^ h') (v ^^ v') := by
  refine bitmap_ext (w8 := w8) (hgt := hgt) (by simp [hb]) (by simp [hb]) fun r c hr hc => ?_
  rw [read_flipBitmap_row_column h' v' (by simp [hb]) hr hc,
    read_flipBitmap_row_column h v hb (flipRow_lt v' hr) (flipColumn_lt h' hc),
    read_flipBitmap_row_column _ _ hb hr hc, flipRow_flipRow v v' hr, flipColumn_flipColumn h h' hc, Option.map_map,
    flipByte_comp]

theorem flipBitmap_false_false (hb : b.length = w8 * hgt) : flipBitmap b w8 hgt false false = b := by
  refine bitmap_ext (w8 := w8) (hgt := hgt) (by simp [hb]) hb fun r c hr hc => ?_
  rw [read_flipBitmap_row_column false false hb hr hc]
  exact Option.map_id_apply

theorem flipBitmap_involutive (hb : b.length = w8 * hgt) (h v : Bool) :
    flipBitmap (flipBitmap b w8 hgt h v) w8 hgt h v = b := by
  rw [flipBitmap_flipBitmap hb, Bool.xor_self, Bool.xor_self, flipBitmap_false_false hb]

/-- The last index less that of row `r` and column `c` is that of the mirrored row and column. -/
theorem last_sub_index (hr : r < hgt) (hc : c < w8) :
    w8 * hgt - 1 - (r * w8 + c) = (hgt - 1 - r) * w8 + (w8 - 1 - c) := by
  obtain ⟨r', rfl⟩ := Nat.exists_eq_add_of_lt hr
  obtain ⟨c', rfl⟩ := Nat.exists_eq_add_of_lt hc
  have hsum : (c + c' + 1) * (r + r' + 1) = r * (c + c' + 1) + c + (r' * (c + c' + 1) + c') + 1 := by ring
  have hrow : r + r' + 1 - 1 - r = r' := by omega
  have hcolumn : c + c' + 1 - 1 - c = c' := by omega
  rw [hrow, hcolumn]
  omega

theorem flipBitmap_true_true (hb : b.length = w8 * hgt) :
    flipBitmap b w8 hgt true true = (b.map reverseBits).reverse := by
  refine bitmap_ext (w8 := w8) (hgt := hgt) (by simp [hb]) (by simp [hb]) fun r c hr hc => ?_
  have hk : r * w8 + c < (b.map reverseBits).length := by
    rw [List.length_map, hb]
    exact row_index_lt hr hc
  rw [read_flipBitmap_row_column true true hb hr hc, Memory.read_eq, Memory.read_eq, List.getElem?_reverse hk,
    List.getElem?_map, List.length_map, hb, last_sub_index hr hc]
  rfl

theorem reverseBits_comp_flipByte (h : Bool) : reverseBits ∘ flipByte h = flipByte h ∘ reverseBits := by
  cases h <;> rfl

theorem revbuf_flipBitmap (hb : b.length = w8 * hgt) (h v : Bool) :
    revbuf (flipBitmap b w8 hgt h v) = flipBitmap (revbuf b) w8 hgt h v := by
  refine bitmap_ext (w8 := w8) (hgt := hgt) (by simp [hb]) (by simp [hb]) fun r c hr hc => ?_
  rw [read_revbuf, read_flipBitmap_row_column h v hb hr hc, read_flipBitmap_row_column h v (by simp [hb]) hr hc,
    read_revbuf, Option.map_map, Option.map_map, reverseBits_comp_flipByte]

/-- R82 (d): after the horizontal flip `revbuf` puts every bit back, so that only the bytes of a row are reversed. -/
theorem read_revbuf_flipBitmap_horizontal (hb : b.length = w8 * hgt) (hr : r < hgt) (hc : c < w8) :
    Memory.read (revbuf (flipBitmap b w8 hgt true false)) (r * w8 + c) = Memory.read b (r * w8 + (w8 - 1 - c)) := by
  rw [read_revbuf, read_flipBitmap_row_column true false hb hr hc, Option.map_map]
  exact (congrArg (Option.map · _) reverseBits_involutive.comp_self).trans Option.map_id_apply

/-! ### A flip moves bytes and loses none (R82) -/

/-- R80: the source of the source of a byte is the byte. -/
theorem flipSource_flipSource (h v : Bool) {k : ℕ} (hk : k < w8 * hgt) :
    flipSource w8 hgt h v (flipSource w8 hgt h v k) = k := by
  have hsource {r c : ℕ} (hc : c < w8) :
      flipSource w8 hgt h v (r * w8 + c) = flipRow hgt v r * w8 + flipColumn w8 h c := flipSource_at w8 hgt h v hc
  obtain ⟨r, c, hr, hc, rfl⟩ := index_row_column hk
  rw [hsource hc, hsource (flipColumn_lt h hc), flipRow_flipRow v v hr, flipColumn_flipColumn h h hc, Bool.xor_self,
    Bool.xor_self]
  rfl

/-- The sources of the bytes of a flipped bitmap are all the indices, in another order. -/
theorem map_flipSource_range_perm (w8 hgt : ℕ) (h v : Bool) :
    ((List.range (w8 * hgt)).map (flipSource w8 hgt h v)).Perm (List.range (w8 * hgt)) := by
  have hnodup : ((List.range (w8 * hgt)).map (flipSource w8 hgt h v)).Nodup :=
    List.nodup_range.map_on fun j hj k hk hjk => by
      rw [← flipSource_flipSource h v (List.mem_range.1 hj), hjk, flipSource_flipSource h v (List.mem_range.1 hk)]
  refine (List.perm_ext_iff_of_nodup hnodup List.nodup_range).2 fun k => ?_
  rw [List.mem_map]
  constructor
  · rintro ⟨j, hj, rfl⟩
    exact List.mem_range.2 (flipSource_lt h v (List.mem_range.1 hj))
  · intro hk
    exact ⟨_, List.mem_range.2 (flipSource_lt h v (List.mem_range.1 hk)),
      flipSource_flipSource h v (List.mem_range.1 hk)⟩

/-- A byte read by index, mirrored or as it is. -/
def readFlipped (b : List Byte) (h : Bool) (k : ℕ) : Byte := flipByte h ((Memory.read b k).getD 0#8)

theorem flipBitmap_eq_map (b : List Byte) (w8 hgt : ℕ) (h v : Bool) :
    flipBitmap b w8 hgt h v = ((List.range b.length).map (flipSource w8 hgt h v)).map (readFlipped b h) := by
  rw [List.map_map]
  cases h <;> rfl

theorem map_readFlipped_range (b : List Byte) (h : Bool) :
    (List.range b.length).map (readFlipped b h) = b.map (flipByte h) := by
  refine List.ext_getElem (by simp) fun k hk hk' => ?_
  have hkb : k < b.length := by simpa using hk
  simp [readFlipped, Memory.read_eq, hkb]

/-- The flipped bitmap has the bytes of the bitmap, each mirrored or as it was, in another order. -/
theorem flipBitmap_perm (hb : b.length = w8 * hgt) (h v : Bool) :
    (flipBitmap b w8 hgt h v).Perm (b.map (flipByte h)) := by
  rw [flipBitmap_eq_map, ← map_readFlipped_range, hb]
  exact (map_flipSource_range_perm w8 hgt h v).map _

theorem onesOfByte_reverseBits : ∀ b : Byte, onesOfByte (reverseBits b) = onesOfByte b := by
  decide +kernel

theorem onesOfByte_flipByte (h : Bool) (x : Byte) : onesOfByte (flipByte h x) = onesOfByte x := by
  cases h with
  | false => rfl
  | true => exact onesOfByte_reverseBits x

theorem onesOf_map_flipByte (h : Bool) (b : List Byte) : onesOf (b.map (flipByte h)) = onesOf b := by
  simp only [onesOf, List.map_map, Function.comp_def, onesOfByte_flipByte]

theorem onesOf_revbuf (b : List Byte) : onesOf (revbuf b) = onesOf b := onesOf_map_flipByte true b

theorem onesOf_flipBitmap (hb : b.length = w8 * hgt) (h v : Bool) : onesOf (flipBitmap b w8 hgt h v) = onesOf b := by
  rw [← onesOf_map_flipByte h b]
  exact ((flipBitmap_perm hb h v).map onesOfByte).sum_eq

theorem flipByte_uniform (h : Bool) {x : Byte} (hx : x = 0x00#8 ∨ x = 0xFF#8) : flipByte h x = x := by
  obtain rfl | rfl := hx <;> cases h <;> decide

/-- A list of copies of one byte is determined by its length. -/
theorem eq_of_uniform {a b : List Byte} {x : Byte} (ha : ∀ y ∈ a, y = x) (hb : ∀ y ∈ b, y = x)
    (hlen : a.length = b.length) : a = b := by
  rw [List.eq_replicate_of_mem ha, List.eq_replicate_of_mem hb, hlen]

theorem map_flipByte_uniform (h : Bool) {x : Byte} (hx : x = 0x00#8 ∨ x = 0xFF#8) (hb : ∀ y ∈ b, y = x) :
    ∀ y ∈ b.map (flipByte h), y = x := by
  intro y hy
  obtain ⟨z, hz, rfl⟩ := List.mem_map.1 hy
  rw [hb z hz, flipByte_uniform h hx]

theorem flipBitmap_uniform (hb : b.length = w8 * hgt) (h v : Bool) {x : Byte} (hx : x = 0x00#8 ∨ x = 0xFF#8)
    (hall : ∀ y ∈ b, y = x) : flipBitmap b w8 hgt h v = b :=
  eq_of_uniform (fun y hy => map_flipByte_uniform h hx hall y ((flipBitmap_perm hb h v).subset hy)) hall
    (length_flipBitmap ..)

theorem revbuf_uniform {x : Byte} (hx : x = 0x00#8 ∨ x = 0xFF#8) (hall : ∀ y ∈ b, y = x) : revbuf b = b :=
  eq_of_uniform (map_flipByte_uniform true hx hall) hall (length_revbuf b)

end Sys2Proof.Machine
end

section
open Sys2Proof Sys2Proof.Machine

/-- Settles O48: (a), (b) and (c) from the composition of flips, (d) and (e) byte by byte, and (f) and (g) because a
flip puts the bytes, mirrored or not, in another order. -/
theorem flipLaws : Obligations.FlipLaws := by
  unfold Obligations.FlipLaws
  intro b w8 hgt hb
  exact ⟨flipBitmap_involutive hb, ⟨flipBitmap_flipBitmap hb true false false true,
    flipBitmap_flipBitmap hb false true true false⟩, flipBitmap_true_true hb,
    fun r c => read_revbuf_flipBitmap_horizontal hb, revbuf_flipBitmap hb,
    fun h v => ⟨length_flipBitmap .., onesOf_flipBitmap hb h v, length_revbuf b, onesOf_revbuf b⟩,
    fun x hx hall => ⟨revbuf_uniform hx hall, fun h v => flipBitmap_uniform hb h v hx hall⟩⟩

end

/-! ### Pixels (R84) -/

section
namespace Sys2Proof.Machine

variable {w8 hgt x y : ℕ} {b : List Byte}

/-- The bit of a byte that a mirrored column selects is the bit of the mirrored byte. -/
theorem getLsbD_flipByte (h : Bool) (byte : Byte) (hx : x < 8 * w8) :
    (flipByte h byte).getLsbD (7 - (if h then 8 * w8 - 1 - x else x) % 8) = byte.getLsbD (7 - x % 8) := by
  cases h with
  | false => rfl
  | true =>
    have hbit : 7 - (8 * w8 - 1 - x) % 8 = x % 8 := by omega
    rw [if_pos rfl, hbit]
    exact getLsbD_reverseBits byte (by omega)

/-- The byte of a mirrored column is at the mirrored place of its row. -/
theorem mirrored_column_div (h : Bool) (hx : x < 8 * w8) :
    (if h then 8 * w8 - 1 - x else x) / 8 = flipColumn w8 h (x / 8) := by
  cases h with
  | false => rfl
  | true =>
    simp only [flipColumn, if_true]
    omega

/-- R80, R84: the pixel at the mirrored place. -/
theorem pixel_flipBitmap (hb : b.length = w8 * hgt) (h v : Bool) (hx : x < 8 * w8) (hy : y < hgt) :
    pixel (flipBitmap b w8 hgt h v) w8 (if h then 8 * w8 - 1 - x else x) (flipRow hgt v y) = pixel b w8 x y := by
  have hcolumn : x / 8 < w8 := by omega
  rw [pixel, mirrored_column_div h hx,
    read_flipBitmap_row_column h v hb (flipRow_lt v hy) (flipColumn_lt h hcolumn), flipRow_flipRow v v hy,
    flipColumn_flipColumn h h hcolumn, Bool.xor_self, Bool.xor_self, Option.map_map]
  simp only [Function.comp_def, getLsbD_flipByte h _ hx]
  rfl

theorem pixel_isSome (hb : b.length = w8 * hgt) (hx : x < 8 * w8) (hy : y < hgt) :
    (pixel b w8 x y).isSome = true := by
  have hk : y * w8 + x / 8 < b.length := hb ▸ row_index_lt hy (by omega)
  simp [pixel, Memory.read_eq, hk]

end Sys2Proof.Machine
end

section
open Sys2Proof Sys2Proof.Machine

/-- Settles O46: the byte of a pixel goes to the mirrored row and column, and its bits are mirrored with it. -/
theorem flipMirrorsThePicture : Obligations.FlipMirrorsThePicture := by
  unfold Obligations.FlipMirrorsThePicture
  exact fun b w8 hgt h v hb x y hx hy => ⟨pixel_flipBitmap hb h v hx hy, pixel_isSome hb hx hy⟩

end

/-! ### Overwriting twice (R122) -/

section
namespace Sys2Proof.Machine

variable {s : State}

/-- A result as long as IBUF, put in place, is its content. -/
theorem deliver_in_place (s : State) {m : List Byte} (h : m.length = s.ibuf.length) :
    s.deliver true m = s.setIbuf m := by
  rw [State.deliver, if_pos rfl, Memory.writeFromZero_eq _ _ h]

/-- The state after a REVBUF or a FLIP in place that succeeds. -/
theorem completed_revbuf_in_place (s : State) :
    s.completed (.revbuf true) = (s.setIbuf (revbuf s.ibuf)).succeed :=
  congrArg State.succeed (deliver_in_place s (length_revbuf s.ibuf))

theorem completed_flip_in_place (s : State) (h v : Bool) :
    s.completed (.flip h v true) = (s.setIbuf (s.flipped h v)).succeed :=
  congrArg State.succeed (deliver_in_place s (length_flipped s h v))

/-- A result as long as IBUF does not change whether the geometry fits. -/
theorem errorOf_flip_setIbuf (h v o : Bool) {m : List Byte} (hm : m.length = s.ibuf.length) :
    errorOf (.flip h v o) (s.setIbuf m).succeed = errorOf (.flip h v o) s := by
  have hfits : (s.setIbuf m).succeed.geometryFits = s.geometryFits := by
    rw [Bool.eq_iff_iff, geometryFits_iff, geometryFits_iff]
    simp [hm]
  simp only [errorOf, hfits]

/-- R82 (a): flipping the flipped content again. -/
theorem flipped_flipped {h v o : Bool} (hok : errorOf (.flip h v o) s = none) :
    (s.setIbuf (s.flipped h v)).succeed.flipped h v = s.ibuf := by
  by_cases hhv : (h || v) = true
  · have hfits : s.geometryFits = true := by simpa [errorOf, hhv] using hok
    obtain ⟨-, hsize⟩ := (geometryFits_iff s).1 hfits
    simp only [State.flipped, if_pos hhv]
    exact flipBitmap_involutive hsize.symm h v
  · simp only [State.flipped, if_neg hhv]
    rfl

/-- Setting IBUF back restores all but `LASTERR`. -/
theorem setIbuf_back_keepsAllBut (s : State) (m : Memory) :
    KeepsAllBut [.lastErr] s (((s.setIbuf m).succeed).setIbuf s.ibuf).succeed :=
  keepsAllBut_of rfl rfl rfl (by simp)

theorem completed_of_lastErr_eq_zero {i : Instr} {t : State} (h : exec i s = .next t) (herr : t.lastErr = 0#4) :
    errorOf i s = none ∧ t = s.completed i := by
  obtain hok | ⟨e, -, rfl⟩ := exec_cases h
  · exact hok
  · exact absurd herr e.lastErr_ne_zero

end Sys2Proof.Machine
end

section
open Sys2Proof Sys2Proof.Machine

/-- Settles O49: the first command succeeded, so the second does and mirrors the content back. -/
theorem overwriteTwiceRestores : Obligations.OverwriteTwiceRestores := by
  unfold Obligations.OverwriteTwiceRestores
  intro i s t hi hexec herr
  obtain ⟨hok, rfl⟩ := completed_of_lastErr_eq_zero hexec herr
  obtain rfl | ⟨h, v, rfl⟩ := hi
  · refine ⟨_, exec_of_errorOf_eq_none rfl, completed_lastErr _ _, ?_⟩
    have hback : revbuf (s.completed (.revbuf true)).ibuf = s.ibuf := by
      rw [completed_revbuf_in_place]
      exact revbuf_revbuf s.ibuf
    rw [completed_revbuf_in_place, hback, completed_revbuf_in_place]
    exact setIbuf_back_keepsAllBut s _
  · rw [completed_flip_in_place]
    refine ⟨_, exec_of_errorOf_eq_none ((errorOf_flip_setIbuf h v true (length_flipped s h v)).trans hok),
      completed_lastErr _ _, ?_⟩
    rw [completed_flip_in_place, flipped_flipped hok]
    exact setIbuf_back_keepsAllBut s _

end
